-- ==== Sys2Proof/Word.lean ====
section
/-! DEFINITION. The one word type of the CP240's two links: a character of 8 data bits (R155, R170). Amounts, counts and
card numbers are `Nat` or `Int`, since the manual adds and compares them and never masks them. -/

namespace Sys2Proof

/-- One character of a frame or one byte of a record (R155, R170, R181). -/
abbrev Byte := BitVec 8

end Sys2Proof
end

