-- ==== Sys2Proof/Syntax.lean ====
section
/-! DEFINITION. The commands of the block: one constructor for each row of the table of operations and events. A lane
request carries the sending station and the body of its frame; an office command carries the body of its frame; an event of
a line, of the clock or of the supply carries what the line shows. -/

namespace Sys2Proof

/-- The blocks that take a seconds tick or a minute tick, each in an event of its own (R26, R79, R137, R140, R149). -/
inductive TickTaker where
  /-- The hold unit takes the seconds tick (R77). -/
  | holdUnit
  /-- Engine control takes the seconds tick (R149). -/
  | engineControl
  /-- The settlement journal takes the minute tick (R137). -/
  | journal
  /-- The time unit's own rollover check at the minute tick (R30). -/
  | rollover
  deriving DecidableEq, Repr

/-- The commands: requests, office commands and events of the table. -/
inductive Instr where
  /-- BAL (R93): the lane request unit takes a BAL frame of `station`. -/
  | bal (station : Nat) (body : List Byte)
  /-- HOLD (R68). -/
  | hold (station : Nat) (body : List Byte)
  /-- SETTLE (R74). -/
  | settle (station : Nat) (body : List Byte)
  /-- SALE (R50). -/
  | sale (station : Nat) (body : List Byte)
  /-- DROP (R76). -/
  | drop (station : Nat) (body : List Byte)
  /-- CASH (R107). -/
  | cash (station : Nat) (body : List Byte)
  /-- REPEAT (R97). -/
  | repeatReply (station : Nat) (body : List Byte)
  /-- LANE_FRAME_END (R160): the check character of a frame with these characters has ended. -/
  | laneFrameEnd (address kind : Byte) (body : List Byte) (check : Byte)
  /-- PARITY_REFUSAL (R159): a character with wrong parity has been received. -/
  | parityRefusal
  /-- LANE_LENGTH_ABANDON (R158): the length character gives a value above 12. -/
  | laneLengthAbandon
  /-- LANE_FRAME_TIMEOUT (R158): 24 bit times passed with no start bit. -/
  | laneFrameTimeout
  /-- BROKEN_WAIT_END (R157): the line stayed high for 24 bit times. -/
  | brokenWaitEnd
  /-- TURNAROUND_END (R161): 12 bit times have passed since the check character and the outcome has been handed back, whichever of
the two comes last (assumption 34). -/
  | turnaroundEnd
  /-- REPLY_PREEMPT (R161): a valid start bit in TURNAROUND. -/
  | replyPreempt
  /-- REPLY_COLLISION (R162): the line does not read as the bit sent. -/
  | replyCollision
  /-- REPLY_COMPLETE (R162): the check character of the reply went out whole. -/
  | replyComplete
  /-- BREAK_RISING_EDGE (R168, R169): a low on ORX of `periods` system-clock periods ends. -/
  | breakRisingEdge (periods : Nat)
  /-- RATED_BREAK_DETECT (R168): a low on ORX reaches 10 bit times at T. -/
  | ratedBreakDetect
  /-- ANSWERING_BREAK_END (R169, R174). -/
  | answeringBreakEnd
  /-- FRAMING_ERROR (R170): a stop bit is sampled low, and the low ends before 10 bit times (assumption 33). -/
  | framingError
  /-- RESYNC_END (R170): ORX has been high for 20 bit times. -/
  | resyncEnd
  /-- OFFICE_LENGTH_ABANDON (R171): the length character gives a value above 32. -/
  | officeLengthAbandon
  /-- OFFICE_FRAME_TIMEOUT (R171): more than 20 bit times of high between two characters. -/
  | officeFrameTimeout
  /-- OFFICE_FRAME_END (R171): the check character of a frame with these characters has ended. -/
  | officeFrameEnd (kind : Byte) (body : List Byte) (check : Byte)
  /-- OFFICE_REPLY_END (R173): the stop bit of the reply's check character has ended. -/
  | officeReplyEnd
  /-- ENROL (R15). -/
  | enrol (body : List Byte)
  /-- RETIRE (R16). -/
  | retire (body : List Byte)
  /-- BLOCK (R17). -/
  | block (body : List Byte)
  /-- UNBLOCK (R18). -/
  | unblock (body : List Byte)
  /-- RECLASS (R19). -/
  | reclass (body : List Byte)
  /-- ADJUST (R20). -/
  | adjust (body : List Byte)
  /-- PURSE_READ (R21). -/
  | purseRead (body : List Byte)
  /-- PURSE_NEXT (R22). -/
  | purseNext (body : List Byte)
  /-- CLASS_SET (R9). -/
  | classSet (body : List Byte)
  /-- CREDIT (R110). -/
  | credit (body : List Byte)
  /-- BATCH_OPEN (R113). -/
  | batchOpen (body : List Byte)
  /-- BATCH_ITEM (R114). -/
  | batchItem (body : List Byte)
  /-- BATCH_CLOSE (R115, R116). -/
  | batchClose (body : List Byte)
  /-- BATCH_ABORT (R118). -/
  | batchAbort (body : List Byte)
  /-- BATCH_RESULT (R119). -/
  | batchResult (body : List Byte)
  /-- CLOCK_SET (R28). -/
  | clockSet (body : List Byte)
  /-- ROLLOVER_SET (R34). -/
  | rolloverSet (body : List Byte)
  /-- WINDOW_SET (R37). -/
  | windowSet (body : List Byte)
  /-- STATION_SET (R61). -/
  | stationSet (body : List Byte)
  /-- JNL_NEXT (R132). -/
  | jnlNext (body : List Byte)
  /-- JNL_CONFIRM (R133). -/
  | jnlConfirm (body : List Byte)
  /-- JNL_REWIND (R134). -/
  | jnlRewind (body : List Byte)
  /-- JOURNAL_SET (R136). -/
  | journalSet (body : List Byte)
  /-- GO (R146). -/
  | go (body : List Byte)
  /-- FREEZE (R147). -/
  | freeze (body : List Byte)
  /-- THAW (R148). -/
  | thaw (body : List Byte)
  /-- RESTART (R152). -/
  | restart (body : List Byte)
  /-- RESTART_WARM_START (R152): the reply to RESTART, or the answering break that abandoned it, has ended. -/
  | restartWarmStart
  /-- WATCH_SET (R99). -/
  | watchSet (body : List Byte)
  /-- ATTN_TAKE (R178). -/
  | attnTake (body : List Byte)
  /-- ATTN_DONE (R179). -/
  | attnDone (body : List Byte)
  /-- ATTN_ENABLE (R179). -/
  | attnEnable (body : List Byte)
  /-- LANE_RATE_SET (R156). -/
  | laneRateSet (body : List Byte)
  /-- STATUS (R164). -/
  | status (body : List Byte)
  /-- STATUS_CLEAR (R164). -/
  | statusClear (body : List Byte)
  /-- SECONDS_TICK (R26): the crystal count reaches one second. `order` names the blocks that take the tick in this event,
  in the order in which they take it; a block not named takes it in a later event (assumption 6). -/
  | secondsTick (order : List TickTaker)
  /-- HOLD_EXPIRY (R77, R78): the hold unit takes the seconds tick still due to it. -/
  | holdExpiry
  /-- FREEZE_LIMIT_EXPIRY (R149): engine control takes the seconds tick still due to it. -/
  | freezeLimitExpiry
  /-- OVERDUE_BEGIN (R137, R138): the journal takes the minute tick still due to it. -/
  | overdueBegin
  /-- RESET_ASSERT (R142): RESETn is driven low. -/
  | resetAssert
  /-- RESET_RELEASE (R142): RESETn is released after a low of `lowNanoseconds`. -/
  | resetRelease (lowNanoseconds : Nat)
  /-- POWER_LOSS (R33, R142): VDD is lost. -/
  | powerLoss
  /-- RETENTION_LOSS (R143): VBAT falls below the retention level. -/
  | retentionLoss
  /-- POWER_RETURN (R143): VDD returns. -/
  | powerReturn
  /-- LANE_FRAME_START (R157): a valid start bit in IDLE. -/
  | laneFrameStart
  /-- OFFICE_FRAME_START (R171): the first character of an office frame. -/
  | officeFrameStart
  /-- RESTART_MARK_END (R165). -/
  | restartMarkEnd
  /-- START_BREAK_END (R153). -/
  | startBreakEnd
  /-- UNKNOWN_REQUEST_KIND (R88): the lane request unit takes a good frame whose kind is none of the seven. -/
  | unknownRequestKind (station : Nat) (kind : Byte) (body : List Byte)
  deriving DecidableEq, Repr

end Sys2Proof
end

