-- ==== Sys2Proof/Decode.lean ====
section
/-! DEFINITION. The commands that a word spells by the table's bits. No row of the table of operations and events gives bits
(every row's fields are empty), so no word spells a command. How a frame's characters spell a command is in
Machine/Formats.lean and Machine/OfficePort.lean. -/

namespace Sys2Proof

/-- No row of the table gives bits. -/
def decodeTableWord (_nbits _w : Nat) : Option Instr := none

end Sys2Proof
end

