-- ==== Sys2Proof/Config.lean ====
section
/-! DEFINITION. The numbers the manual fixes for every CP240, and the free values: constants without a body that stand for
what the manual leaves open. -/

namespace Sys2Proof.Config

/-- The largest card number (R1). -/
@[simp] abbrev maxCard : Nat := 99999999

/-- The places of the purse table (R1). -/
@[simp] abbrev maxPurses : Nat := 4096

/-- The lowest balance of a purse (R3). -/
@[simp] abbrev minBalance : Int := -20000

/-- The highest balance of a purse (R3). -/
@[simp] abbrev maxBalance : Int := 999999

/-- The value at which a stored day spend is clamped (R52). -/
@[simp] abbrev maxDaySpend : Nat := 200000

/-- The value at which a day total saturates (R11). -/
@[simp] abbrev maxTotal : Nat := 4294967295

/-- The largest gross of a tray and the largest requested hold (R88). -/
@[simp] abbrev maxGross : Nat := 99999

/-- The largest amount of a CREDIT or of a batch item (R110, R114). -/
@[simp] abbrev maxCredit : Nat := 200000

/-- The largest amount of a CASH (R107). -/
@[simp] abbrev maxCash : Nat := 50000

/-- The hold records of the pool (R63). -/
@[simp] abbrev poolSize : Nat := 64

/-- The places of the journal; a DAY_MARK has room below it (R126). -/
@[simp] abbrev journalPlaces : Nat := 2048

/-- The occupancy from which a DEBIT has no room and JOURNAL_FULL holds (R126, R127). -/
@[simp] abbrev debitLimit : Nat := 2047

/-- The occupancy from which a general record has no room (R126). -/
@[simp] abbrev generalLimit : Nat := 1920

/-- The largest sequence number; 1 follows it (R124). -/
@[simp] abbrev maxSequence : Nat := 4294967295

/-- The minutes of a day (R35). -/
@[simp] abbrev minutesPerDay : Nat := 1440

/-- The number of day numbers; 0 follows 65,535 (R29). -/
@[simp] abbrev dayNumbers : Nat := 65536

/-- The most items of a batch (R112). -/
@[simp] abbrev maxBatch : Nat := 512

/-- The longest body of a lane request (R158). -/
@[simp] abbrev maxLaneBody : Nat := 12

/-- The longest body of an office command (R171). -/
@[simp] abbrev maxOfficeBody : Nat := 32

/-- The value at which a lane bus counter saturates (R163). -/
@[simp] abbrev maxCounter : Nat := 65535

/-- The value at which a hit count, the blocked-seen count and the freeze change count saturate (R99, R102, R145). -/
@[simp] abbrev maxByteCount : Nat := 255

/-- The shortest RESETn low, in nanoseconds, that is a start for certain (R142: at least 2 µs). -/
@[simp] abbrev resetLowNanoseconds : Nat := 2000

/-- FREE VALUE (assumption 2). Whether the `n`-th RESETn low shorter than 2 µs is taken as a warm start or ignored: R142
allows either. -/
opaque shortResetStarts : Nat → Bool

/-- FREE VALUE (assumption 3). The receiver state byte of STATUS page 6 while the restart mark is sent: R183 gives no code
for a receiver held through the mark. -/
opaque receiverCodeInMark : Byte

/-- FREE VALUE (assumption 4). How STATUS page 7 rounds a rate that lies exactly between two whole numbers (T = 1,024):
R175 says only that the rate is rounded to a whole bit/s. -/
opaque rateTieRoundsUp : Bool

/-- FREE VALUE (assumption 5). The day bytes of an empty freeze change record as a reply shows them: R183 gives the code of
an empty record and no value for its day. -/
opaque emptyChangeDay : Nat

/-- FREE VALUE (assumption 5). The clock minute bytes of an empty freeze change record as a reply shows them. -/
opaque emptyChangeMinute : Nat

end Sys2Proof.Config
end

