-- ==== Sys2Proof/Machine/State.lean ====
section
/-! DEFINITION. The state of the CP240, block by block, as plain data, the outcomes of a step, and the state after reset: the
CP240 right after a cold start, with the restart mark and the start break still being sent (R153). -/

namespace Sys2Proof.Machine

/-! ## The purse store (R1 to R13) -/

/-- Whether lane requests may act on a purse (R4). -/
inductive PurseState where
  | active
  | blocked
  deriving DecidableEq, Repr

/-- A purse record (R2). An absent field is `none`. -/
structure Purse where
  card : Nat
  state : PurseState
  cls : Fin 8
  balance : Int
  /-- The station whose queue holds this purse's one open hold (R5). -/
  holdStation : Option Nat
  daySpend : Nat
  daySpendStamp : Option Nat
  windowUsed : Nat
  /-- The day number and the window index of the occurrence stamp (R7). -/
  occurrence : Option (Nat × Nat)
  deriving DecidableEq, Repr

/-- A class record (R8). -/
structure ClassRecord where
  /-- Subsidy rate P, per mille. -/
  rate : Nat
  /-- Subsidy cap C per window occurrence. -/
  cap : Nat
  /-- Floor F. -/
  floor : Int
  /-- Day limit D; 0 means no limit. -/
  dayLimit : Nat
  holdCeiling : Nat
  deriving DecidableEq, Repr

/-- The purse store (R1, R8, R10, R11, R12). -/
structure PurseStore where
  /-- The purse table, ordered by card number, ascending. -/
  purses : List Purse
  classes : Vector ClassRecord 8
  floatTotal : Int
  debitTotal : Nat
  subsidyTotal : Nat
  creditTotal : Nat
  firstDay : Nat
  deriving DecidableEq, Repr

/-- The cold defaults of a class record (R8). -/
def ClassRecord.cold : ClassRecord :=
  { rate := 0, cap := 0, floor := 0, dayLimit := 0, holdCeiling := 2000 }

/-- The purse store after a cold start (R24). -/
def PurseStore.cold : PurseStore :=
  { purses := [], classes := Vector.replicate 8 ClassRecord.cold, floatTotal := 0, debitTotal := 0, subsidyTotal := 0,
    creditTotal := 0, firstDay := 0 }

/-! ## The time unit (R25) -/

/-- A window entry (R36); `stop` is the field named end. -/
structure Window where
  used : Bool
  start : Nat
  stop : Nat
  subsidised : Bool
  deriving DecidableEq, Repr

/-- An unused entry as it is stored (R36). -/
def Window.unused : Window := { used := false, start := 0, stop := 0, subsidised := false }

/-- The time unit (R25). -/
structure TimeUnit where
  second : Nat
  minute : Nat
  day : Nat
  valid : Bool
  rolloverMinute : Nat
  rolloverFreeze : Bool
  windows : Vector Window 6
  deriving DecidableEq, Repr

/-- The time unit after a cold start (R40). -/
def TimeUnit.cold : TimeUnit :=
  { second := 0, minute := 0, day := 0, valid := false, rolloverMinute := 240, rolloverFreeze := false,
    windows := Vector.replicate 6 Window.unused }

/-! ## The hold unit (R60 to R66) -/

/-- What a lane bus address is (R60). -/
inductive StationKind where
  | none
  | till
  | kiosk
  deriving DecidableEq, Repr

/-- A station entry (R60). -/
structure StationEntry where
  kind : StationKind
  quota : Nat
  lifetime : Nat
  deriving DecidableEq, Repr

/-- The cold defaults of a station entry (R60). -/
def StationEntry.cold : StationEntry := { kind := .none, quota := 4, lifetime := 180 }

/-- An open hold record (R63). -/
structure Hold where
  card : Nat
  station : Nat
  granted : Nat
  remaining : Nat
  deriving DecidableEq, Repr

/-- The hold unit. `holds` lists the open records of the pool, oldest opened first; the queue of a station is the
sublist of the records that name it, head first (R64), and the pool count is the length. Index `k` of a vector belongs to
station `k + 1`. -/
structure HoldUnit where
  stations : Vector StationEntry 14
  holds : List Hold
  lastExpired : Vector (Option Nat) 14
  deriving DecidableEq, Repr

/-- The hold unit after a cold start (R84). -/
def HoldUnit.cold : HoldUnit :=
  { stations := Vector.replicate 14 StationEntry.cold, holds := [], lastExpired := Vector.replicate 14 Option.none }

/-! ## The credit unit (R112) -/

/-- The batch state (R112). -/
inductive BatchState where
  | none
  | opened
  | closed
  deriving DecidableEq, Repr

/-- Why an item of a close was rejected (R117). -/
inductive RejectReason where
  | unknownCard
  | purseFull
  | noRoom
  deriving DecidableEq, Repr

/-- A staged item (R112). -/
structure BatchItem where
  card : Nat
  amount : Nat
  deriving DecidableEq, Repr

/-- An entry of the result list (R112); `index` counts from 1. -/
structure RejectedItem where
  index : Nat
  card : Nat
  reason : RejectReason
  deriving DecidableEq, Repr

/-- The summary of the last close (R117). -/
structure BatchSummary where
  appliedCount : Nat
  appliedTotal : Nat
  rejectedCount : Nat
  firstSeq : Nat
  lastSeq : Nat
  deriving DecidableEq, Repr

/-- The summary with every field 0. -/
def BatchSummary.zero : BatchSummary :=
  { appliedCount := 0, appliedTotal := 0, rejectedCount := 0, firstSeq := 0, lastSeq := 0 }

/-- The batch state of the credit unit (R112). -/
structure CreditUnit where
  state : BatchState
  batchId : Nat
  declaredCount : Nat
  declaredTotal : Nat
  staging : List BatchItem
  stagedSum : Nat
  results : List RejectedItem
  summary : BatchSummary
  deriving DecidableEq, Repr

/-- The credit unit after any start (R122). -/
def CreditUnit.cold : CreditUnit :=
  { state := .none, batchId := 0, declaredCount := 0, declaredTotal := 0, staging := [], stagedSum := 0, results := [],
    summary := BatchSummary.zero }

/-! ## The settlement journal (R123 to R125) -/

/-- The kind of a record and the further fields of its kind (R125). -/
inductive RecordBody where
  | enrol (card : Nat) (amount after : Int)
  | debit (card gross subsidy : Nat) (amount after : Int) (window : Option Nat)
  | credit (card : Nat) (amount after : Int)
  | batchCredit (card : Nat) (amount after : Int) (batchId : Nat)
  | cash (card : Nat) (amount after : Int)
  | adjust (card : Nat) (amount after : Int)
  | retire (card : Nat) (amount after : Int)
  | dayMark (firstDay lastDay : Nat) (floatTotal : Int) (debit subsidy credit : Nat)
  deriving DecidableEq, Repr

/-- A journal record (R125). -/
structure Record where
  seq : Nat
  source : Nat
  minute : Nat
  day : Nat
  body : RecordBody
  deriving DecidableEq, Repr

/-- The settlement journal (R123). The occupancy is the number of records; the overdue state is on exactly when the
overdue timer stands at 0 (R123), so it has no field of its own (assumption 7). -/
structure Journal where
  /-- Oldest first. -/
  records : List Record
  nextSeq : Nat
  /-- The sequence number of the next record JNL_NEXT returns. -/
  cursor : Nat
  highWater : Nat
  reload : Nat
  timer : Nat
  deriving DecidableEq, Repr

/-- The journal after a cold start (R141). -/
def Journal.cold : Journal :=
  { records := [], nextSeq := 1, cursor := 1, highWater := 1536, reload := 30, timer := 30 }

/-! ## The lane request unit (R95, R99, R102) -/

/-- Lane statuses. -/
inductive LaneStatus where
  | ok
  | shortOk
  | badRequest
  | wrongStation
  | notReady
  | frozen
  | unknownCard
  | blocked
  | inUse
  | queueFull
  | poolFull
  | noHold
  | holdExpired
  | insufficient
  | dayLimit
  | purseFull
  | journalFull
  | overdueRefused
  | noReply
  deriving DecidableEq, Repr

/-- A last-reply record (R95). `kind` is the request kind as received. -/
structure LastReply where
  kind : Byte
  card : Nat
  status : LaneStatus
  short : Bool
  body : List Byte
  delivered : Bool
  deriving DecidableEq, Repr

/-- The request kinds the lane request unit knows and puts through the common checks (R86). -/
inductive RequestKind where
  | bal
  | hold
  | settle
  | sale
  | drop
  | cash
  deriving DecidableEq, Repr

/-- A watch entry (R99); card 0 marks it unused. -/
structure WatchEntry where
  card : Nat
  latch : Bool
  hits : Nat
  lastStation : Nat
  lastKind : Option RequestKind
  deriving DecidableEq, Repr

/-- An entry as a cold start leaves it (R105). -/
def WatchEntry.unused : WatchEntry := { card := 0, latch := false, hits := 0, lastStation := 0, lastKind := none }

/-- The blocked-seen record (R102). -/
structure BlockedSeen where
  card : Nat
  station : Nat
  minute : Nat
  count : Nat
  deriving DecidableEq, Repr

/-- The blocked-seen record after any start (R105). -/
def BlockedSeen.zero : BlockedSeen := { card := 0, station := 0, minute := 0, count := 0 }

/-- A lane reply: the station it is addressed to, its status, its three flags and its body (R91, R92). -/
structure LaneReply where
  station : Nat
  status : LaneStatus
  overdue : Bool
  short : Bool
  repeated : Bool
  body : List Byte
  deriving DecidableEq, Repr

/-- The lane request unit. `outcome` is the model's own field: the reply of the last request it took, `none` when that
request was not answered (assumption 8). Index `k` of `lastReplies` belongs to station `k + 1`. -/
structure LaneUnit where
  lastReplies : Vector (Option LastReply) 14
  watch : Vector WatchEntry 4
  blockedSeen : BlockedSeen
  outcome : Option LaneReply
  deriving DecidableEq, Repr

/-- The lane request unit after a cold start (R105). -/
def LaneUnit.cold : LaneUnit :=
  { lastReplies := Vector.replicate 14 none, watch := Vector.replicate 4 WatchEntry.unused, blockedSeen := BlockedSeen.zero,
    outcome := none }

/-! ## The lane bus port (R156 to R165) -/

/-- What the lane request unit has handed back for the frame the port waits on (R160, R161). -/
inductive HandBack where
  | awaited
  | noReply
  | reply (r : LaneReply)
  deriving DecidableEq, Repr

/-- The receiver (R157), and the time it is held through the restart mark (R165). BROKEN keeps whether it was entered at the
end of a refusal signal, so that the state shows the signal on the line (R159; assumption 29). -/
inductive LaneReceiver where
  | mark
  | idle
  | receiving
  | broken (refusal : Bool)
  | turnaround (held : HandBack)
  | replying (r : LaneReply)
  deriving DecidableEq, Repr

/-- A good frame handed to the lane request unit and not taken yet (R160, R85). -/
structure LaneFrame where
  station : Nat
  kind : Byte
  body : List Byte
  deriving DecidableEq, Repr

/-- The six lane bus counters (R163). -/
structure LaneCounters where
  goodFrames : Nat
  parityRefusals : Nat
  badChecks : Nat
  timeouts : Nat
  unknownStations : Nat
  replyLosses : Nat
  deriving DecidableEq, Repr

/-- All six counters 0. -/
def LaneCounters.zero : LaneCounters :=
  { goodFrames := 0, parityRefusals := 0, badChecks := 0, timeouts := 0, unknownStations := 0, replyLosses := 0 }

/-- The fault-kind set (R163): which of the five kinds it holds. -/
structure FaultKinds where
  parity : Bool
  badCheck : Bool
  timeout : Bool
  unknownStation : Bool
  replyLoss : Bool
  deriving DecidableEq, Repr

/-- The empty fault-kind set. -/
def FaultKinds.empty : FaultKinds :=
  { parity := false, badCheck := false, timeout := false, unknownStation := false, replyLoss := false }

/-- The lane bus port. `handed` lists the frames handed on and not taken yet, oldest first, the
order in which they are matched (assumption 30). Rates are in bit/s. -/
structure LanePort where
  receiver : LaneReceiver
  rate : Nat
  pendingRate : Option Nat
  handed : List LaneFrame
  counters : LaneCounters
  faults : FaultKinds
  deriving DecidableEq, Repr

/-- The lane bus port after a cold start (R165). -/
def LanePort.cold : LanePort :=
  { receiver := .mark, rate := 19200, pendingRate := none, handed := [], counters := LaneCounters.zero,
    faults := FaultKinds.empty }

/-! ## The office link port (R167, R169, R173) -/

/-- Office statuses. -/
inductive OfficeStatus where
  | ok
  | badRequest
  | range
  | unknownCard
  | cardExists
  | tableFull
  | hasHold
  | purseFull
  | noRoom
  | wrongState
  | badTable
  | batchState
  | countExceeded
  | mismatch
  | notRead
  | empty
  | atEnd
  deriving DecidableEq, Repr

/-- The office receiver (R167). -/
inductive OfficeReceiver where
  | seeking
  | receiving
  | resync
  deriving DecidableEq, Repr

/-- The four link flags (R167). -/
structure LinkFlags where
  badRate : Bool
  timeout : Bool
  badCheck : Bool
  handshake : Bool
  deriving DecidableEq, Repr

/-- All four link flags clear. -/
def LinkFlags.clear : LinkFlags := { badRate := false, timeout := false, badCheck := false, handshake := false }

/-- An office reply: status, the link flags it carries and its body (R173). -/
structure OfficeReply where
  status : OfficeStatus
  flags : LinkFlags
  body : List Byte
  deriving DecidableEq, Repr

/-- What the port sends on OTX (R153, R169, R173). `startBreak true` is a start break during which a break of the office was
accepted, with the answering break still to come (assumption 11). The reply period is on while the port sends a reply or an
answering break, or has an answering break to send. -/
inductive OfficeTransmit where
  | idle
  | reply (r : OfficeReply)
  | answeringBreak
  | startBreak (answer : Bool)
  deriving DecidableEq, Repr

/-- The office link port (R167). The link is RATED exactly when the bit time T is present. `restartPending` says that the
warm start of an accepted RESTART has not begun (R152). -/
structure OfficePort where
  bitTime : Option Nat
  receiver : OfficeReceiver
  transmit : OfficeTransmit
  flags : LinkFlags
  restartPending : Bool
  deriving DecidableEq, Repr

/-- The office link port after any start (R167, R153). A warm start that an accepted RESTART still waited for is dropped by another
start that comes first: a DESIGN CHOICE (assumption 32). -/
def OfficePort.started : OfficePort :=
  { bitTime := none, receiver := .seeking, transmit := .startBreak false, flags := LinkFlags.clear, restartPending := false }

/-! ## Engine control (R145) -/

/-- What lane service the engine gives (R145). -/
inductive EngineState where
  | unset
  | running
  | frozen
  deriving DecidableEq, Repr

/-- Why the engine is FROZEN (R145). -/
inductive FreezeReason where
  | office
  | rollover
  deriving DecidableEq, Repr

/-- The change of a freeze change record (R151). -/
inductive ChangeKind where
  | entry
  | exit
  deriving DecidableEq, Repr

/-- The reason of a freeze change record (R151). -/
inductive ChangeReason where
  | rollover
  | limit
  deriving DecidableEq, Repr

/-- A freeze change record (R145, R151). -/
structure FreezeChange where
  change : ChangeKind
  reason : ChangeReason
  day : Nat
  minute : Nat
  deriving DecidableEq, Repr

/-- The cause of the last start (R145). -/
inductive StartCause where
  | reset
  | power
  | restart
  | cold
  deriving DecidableEq, Repr

/-- Engine control (R145). The freeze limit is in minutes, the freeze timer in seconds. -/
structure EngineControl where
  state : EngineState
  reason : Option FreezeReason
  limit : Nat
  timer : Nat
  change : Option FreezeChange
  changeCount : Nat
  startCause : StartCause
  deriving DecidableEq, Repr

/-- Engine control after a cold start (R144). -/
def EngineControl.cold : EngineControl :=
  { state := .unset, reason := none, limit := 3, timer := 0, change := none, changeCount := 0, startCause := .cold }

/-! ## The attention unit (R175) -/

/-- The eight attention causes (R175). -/
inductive Cause where
  | rollover
  | laneBusFault
  | freezeChange
  | blockedSeen
  | watchHit
  | journalHigh
  | journalFull
  | overdue
  deriving DecidableEq, Repr

/-- One flag for each cause. -/
structure CauseFlags where
  rollover : Bool
  laneBusFault : Bool
  freezeChange : Bool
  blockedSeen : Bool
  watchHit : Bool
  journalHigh : Bool
  journalFull : Bool
  overdue : Bool
  deriving DecidableEq, Repr

/-- No flag set. -/
def CauseFlags.clear : CauseFlags :=
  { rollover := false, laneBusFault := false, freezeChange := false, blockedSeen := false, watchHit := false,
    journalHigh := false, journalFull := false, overdue := false }

/-- The attention unit (R175). `condition` has meaning for the three level causes and stays clear for the others; `enabled`
has meaning for the six maskable causes and stays clear for the other two. -/
structure AttentionUnit where
  pending : CauseFlags
  acknowledged : CauseFlags
  condition : CauseFlags
  enabled : CauseFlags
  taken : Bool
  deriving DecidableEq, Repr

/-- The attention unit after a cold start (R180): no condition of an empty journal holds. -/
def AttentionUnit.cold : AttentionUnit :=
  { pending := CauseFlags.clear, acknowledged := CauseFlags.clear, condition := CauseFlags.clear,
    enabled := CauseFlags.clear, taken := false }

/-! ## Supplies, RESETn and ticks not yet taken -/

/-- The supply side of engine control's starts (R142, R143): VDD present, RESETn held low, retention marker valid. -/
structure Supply where
  vdd : Bool
  resetLow : Bool
  retentionValid : Bool
  deriving DecidableEq, Repr

/-- The ticks that have been issued and that a block has not taken yet (R26, R79, R140, R149; assumption 6). -/
structure TickDue where
  hold : Bool
  engine : Bool
  journal : Bool
  deriving DecidableEq, Repr

/-- No tick is due. -/
def TickDue.nothing : TickDue := { hold := false, engine := false, journal := false }

/-! ## The machine -/

/-- The whole state of the CP240. `openChoices` counts the choices the manual leaves open that have been met (the model's
own field); `pending` is the queue of commands that wait, first in, first out. -/
structure State where
  purses : PurseStore
  time : TimeUnit
  holds : HoldUnit
  credit : CreditUnit
  journal : Journal
  lane : LaneUnit
  port : LanePort
  office : OfficePort
  engine : EngineControl
  attention : AttentionUnit
  supply : Supply
  ticks : TickDue
  openChoices : Nat
  pending : List Instr
  deriving DecidableEq, Repr

/-- Why the machine would stop with a fault. The manual describes no fault that stops the CP240: every request, command and
event has an effect or changes nothing. -/
inductive Fault where
  deriving DecidableEq, Repr

/-- Why a command has no outcome. -/
inductive Refusal where
  /-- Raised by `exec` for a command that has no meaning in the model yet; safe: the machine goes no further. -/
  | notModelled (mnemonic : String)
  deriving DecidableEq, Repr

/-- The CP240 right after a cold start (R24, R40, R84, R105, R122, R141, R144, R165, R167, R180): every block at its cold
defaults, the receiver held through the restart mark, the start break on OTX, the retention marker valid (R143). -/
def State.reset : State :=
  { purses := PurseStore.cold, time := TimeUnit.cold, holds := HoldUnit.cold, credit := CreditUnit.cold,
    journal := Journal.cold, lane := LaneUnit.cold, port := LanePort.cold, office := OfficePort.started,
    engine := EngineControl.cold, attention := AttentionUnit.cold,
    supply := { vdd := true, resetLow := false, retentionValid := true }, ticks := TickDue.nothing, openChoices := 0,
    pending := [] }

end Sys2Proof.Machine
end

