-- ==== Sys2Proof/Machine/Formats.lean ====
section
/-! DEFINITION. Encodings seen on the links (R181, R182): multi-byte fields, codes of enumerated values, frame checks, the
bit patterns of characters (R155, R170), and the layouts of journal records. -/

namespace Sys2Proof.Machine

/-! ## Fields -/

/-- `k` bytes of `n`, least significant byte first (R181). -/
def leBytes : Nat → Nat → List Byte
  | 0, _ => []
  | k + 1, n => BitVec.ofNat 8 n :: leBytes k (n / 256)

/-- `k` bytes of the two's complement of `z` (R181). -/
def leBytesInt (k : Nat) (z : Int) : List Byte :=
  leBytes k (z % (256 ^ k : Nat)).toNat

/-- The plain binary value of the bytes, least significant byte first (R181). -/
def leNat : List Byte → Nat
  | [] => 0
  | b :: bs => b.toNat + 256 * leNat bs

/-- The two's complement value of the bytes (R181). -/
def leInt (bs : List Byte) : Int :=
  if 2 * leNat bs < 256 ^ bs.length then (leNat bs : Int) else (leNat bs : Int) - (256 ^ bs.length : Nat)

/-- The unsigned field of `len` bytes at byte offset `off` of a body. -/
def field (body : List Byte) (off len : Nat) : Nat :=
  leNat ((body.drop off).take len)

/-- The signed field of `len` bytes at byte offset `off` of a body. -/
def signedField (body : List Byte) (off len : Nat) : Int :=
  leInt ((body.drop off).take len)

/-- A byte that holds one bit. -/
def boolByte (b : Bool) : Byte := if b then 1 else 0

/-- The sum of characters modulo 256. -/
def byteSum (bs : List Byte) : Byte := bs.foldl (· + ·) 0

/-- The check character that makes the sum 0 modulo 256 (R158, R162, R171, R173, R182). -/
def checkByte (bs : List Byte) : Byte := - byteSum bs

/-! ## Codes (R181) -/

/-- The code of a request kind that goes through the common checks. -/
def RequestKind.code : RequestKind → Byte
  | .bal => 1
  | .hold => 2
  | .settle => 3
  | .sale => 4
  | .drop => 5
  | .cash => 6

/-- The code of REPEAT. -/
def repeatCode : Byte := 7

/-- The code of a lane status. -/
def LaneStatus.code : LaneStatus → Byte
  | .ok => 0
  | .shortOk => 1
  | .badRequest => 2
  | .wrongStation => 3
  | .notReady => 4
  | .frozen => 5
  | .unknownCard => 6
  | .blocked => 7
  | .inUse => 8
  | .queueFull => 9
  | .poolFull => 10
  | .noHold => 11
  | .holdExpired => 12
  | .insufficient => 13
  | .dayLimit => 14
  | .purseFull => 15
  | .journalFull => 16
  | .overdueRefused => 17
  | .noReply => 18

/-- The code of an office status. -/
def OfficeStatus.code : OfficeStatus → Byte
  | .ok => 0
  | .badRequest => 1
  | .range => 2
  | .unknownCard => 3
  | .cardExists => 4
  | .tableFull => 5
  | .hasHold => 6
  | .purseFull => 7
  | .noRoom => 8
  | .wrongState => 9
  | .badTable => 10
  | .batchState => 11
  | .countExceeded => 12
  | .mismatch => 13
  | .notRead => 14
  | .empty => 15
  | .atEnd => 16

/-- The reason of a result entry as an office status code (R181). -/
def RejectReason.code : RejectReason → Byte
  | .unknownCard => OfficeStatus.unknownCard.code
  | .purseFull => OfficeStatus.purseFull.code
  | .noRoom => OfficeStatus.noRoom.code

/-- The code of a purse state. -/
def PurseState.code : PurseState → Byte
  | .active => 0
  | .blocked => 1

/-- The code of a station kind. -/
def StationKind.code : StationKind → Byte
  | .none => 0
  | .till => 1
  | .kiosk => 2

/-- The station kind of a code; other codes are refused. -/
def StationKind.ofCode (n : Nat) : Option StationKind :=
  if n = 0 then some .none else if n = 1 then some .till else if n = 2 then some .kiosk else Option.none

/-- The code of a batch state. -/
def BatchState.code : BatchState → Byte
  | .none => 0
  | .opened => 1
  | .closed => 2

/-- The code of an engine state. -/
def EngineState.code : EngineState → Byte
  | .unset => 0
  | .running => 1
  | .frozen => 2

/-- The code of a freeze reason that may be absent. -/
def freezeReasonCode : Option FreezeReason → Byte
  | none => 0
  | some .office => 1
  | some .rollover => 2

/-- The code of the reason of a freeze change record. -/
def ChangeReason.code : ChangeReason → Byte
  | .rollover => 2
  | .limit => 3

/-- The code of the change of a freeze change record; 0 is the empty record (R183). -/
def ChangeKind.code : ChangeKind → Byte
  | .entry => 1
  | .exit => 2

/-- The code of a start cause. -/
def StartCause.code : StartCause → Byte
  | .reset => 0
  | .power => 1
  | .restart => 2
  | .cold => 3

/-- The number of a cause (R175). -/
def Cause.number : Cause → Nat
  | .rollover => 0
  | .laneBusFault => 1
  | .freezeChange => 2
  | .blockedSeen => 3
  | .watchHit => 4
  | .journalHigh => 5
  | .journalFull => 6
  | .overdue => 7

/-- The rate code of a lane rate: the rate divided by 100 (R181). -/
def rateCode (rate : Nat) : Nat := rate / 100

/-- The lane rate of a rate code; other codes name no lane rate (R156, R181). -/
def rateOfCode (n : Nat) : Option Nat :=
  if n = 96 ∨ n = 192 ∨ n = 384 ∨ n = 576 then some (100 * n) else none

/-- The receiver state byte of STATUS page 6 (R183); during the restart mark the code is a free value. -/
def LaneReceiver.code : LaneReceiver → Byte
  | .mark => Config.receiverCodeInMark
  | .idle => 0
  | .receiving => 1
  | .broken _ => 2
  | .turnaround _ => 3
  | .replying _ => 4

/-- The receiver byte of STATUS page 7 (R183). -/
def OfficeReceiver.code : OfficeReceiver → Byte
  | .seeking => 0
  | .receiving => 1
  | .resync => 2

/-- Eight flags as one byte, bit 0 first. -/
def flagByte (b0 b1 b2 b3 b4 b5 b6 b7 : Bool) : Byte :=
  BitVec.ofNat 8 (b0.toNat + 2 * b1.toNat + 4 * b2.toNat + 8 * b3.toNat + 16 * b4.toNat + 32 * b5.toNat + 64 * b6.toNat
    + 128 * b7.toNat)

/-- An attention flag byte: bit n is cause number n (R181). -/
def CauseFlags.byte (f : CauseFlags) : Byte :=
  flagByte f.rollover f.laneBusFault f.freezeChange f.blockedSeen f.watchHit f.journalHigh f.journalFull f.overdue

/-- The fault-kind set as a byte (R183, page 6). That bits 5 to 7 are 0 is a DESIGN CHOICE (assumption 28). -/
def FaultKinds.byte (f : FaultKinds) : Byte :=
  flagByte f.parity f.badCheck f.timeout f.unknownStation f.replyLoss false false false

/-- The office link flags byte (R181). That bits 4 to 7 are 0 is a DESIGN CHOICE (assumption 28). -/
def LinkFlags.byte (f : LinkFlags) : Byte :=
  flagByte f.badRate f.timeout f.badCheck f.handshake false false false false

/-- The lane reply flags byte (R181). -/
def LaneReply.flagsByte (r : LaneReply) : Byte :=
  flagByte r.overdue r.short r.repeated false false false false false

/-- The STATUS page 3 byte of a watch entry: bit 7 the latch, bits 0 to 6 the request kind, 0 none (R183). -/
def latchKindByte (latch : Bool) (kind : Option RequestKind) : Byte :=
  (if latch then 128 else 0) + (kind.map RequestKind.code).getD 0

/-! ## Characters and frames on the lines -/

/-- Whether a character has an odd number of ones; the even parity bit (R155). -/
def parityBit (c : Byte) : Bool :=
  (c.getLsbD 0).xor ((c.getLsbD 1).xor ((c.getLsbD 2).xor ((c.getLsbD 3).xor ((c.getLsbD 4).xor ((c.getLsbD 5).xor
    ((c.getLsbD 6).xor (c.getLsbD 7)))))))

/-- The 8 data bits, least significant first. -/
def dataBits (c : Byte) : List Bool := (List.range 8).map c.getLsbD

/-- A lane character, 12 bits with `true` for a released line: start bit, data, even parity, two guard bits (R155). -/
def laneCharacter (c : Byte) : List Bool := [false] ++ dataBits c ++ [parityBit c, true, true]

/-- An office character, 8N1 (R170). -/
def officeCharacter (c : Byte) : List Bool := [false] ++ dataBits c ++ [true]

/-- Characters closed by their check character. -/
def withCheck (bs : List Byte) : List Byte := bs ++ [checkByte bs]

/-- The characters of a lane reply frame (R162); the address has its top bit set. -/
def LaneReply.frame (r : LaneReply) : List Byte :=
  withCheck ([BitVec.ofNat 8 (128 + r.station), r.status.code, r.flagsByte, BitVec.ofNat 8 r.body.length] ++ r.body)

/-- The characters of an office reply frame (R173). -/
def OfficeReply.frame (r : OfficeReply) : List Byte :=
  withCheck ([r.status.code, r.flags.byte, BitVec.ofNat 8 r.body.length] ++ r.body)

/-- Whether the characters of a lane request frame sum to 0 modulo 256 (R158). -/
def laneSumGood (address kind : Byte) (body : List Byte) (check : Byte) : Bool :=
  byteSum ([address, kind, BitVec.ofNat 8 body.length] ++ body ++ [check]) == 0

/-- Whether the characters of an office frame sum to 0 modulo 256 (R171). -/
def officeSumGood (kind : Byte) (body : List Byte) (check : Byte) : Bool :=
  byteSum ([kind, BitVec.ofNat 8 body.length] ++ body ++ [check]) == 0

/-! ## Records and windows -/

/-- The window index byte; 255 is none (R181). -/
def windowByte (w : Option Nat) : Byte := BitVec.ofNat 8 (w.getD 255)

/-- A window entry as 3 bytes: start in bits 0 to 10, end in bits 11 to 21, used in bit 22, subsidised in bit 23
(R181). -/
def Window.bytes (w : Window) : List Byte :=
  leBytes 3 (w.start + 2 ^ 11 * w.stop + 2 ^ 22 * w.used.toNat + 2 ^ 23 * w.subsidised.toNat)

/-- The window entry of a 24-bit value; an entry marked unused is stored with start 0, end 0 and the subsidised flag off
(R36, R37, R181). -/
def windowOfValue (v : Nat) : Window :=
  if v / 2 ^ 22 % 2 = 1 then
    { used := true, start := v % 2 ^ 11, stop := v / 2 ^ 11 % 2 ^ 11, subsidised := decide (v / 2 ^ 23 % 2 = 1) }
  else Window.unused

/-- The kind code of a record (R181). -/
def RecordBody.kindCode : RecordBody → Byte
  | .enrol .. => 1
  | .debit .. => 2
  | .credit .. => 3
  | .batchCredit .. => 4
  | .cash .. => 5
  | .adjust .. => 6
  | .retire .. => 7
  | .dayMark .. => 8

/-- Bytes 10 to 30 of a money record (R182). -/
def moneyBytes (card : Nat) (amount after : Int) (gross subsidy : Nat) (window : Byte) (batchId : Nat) : List Byte :=
  leBytes 4 card ++ leBytesInt 4 amount ++ leBytesInt 4 after ++ leBytes 3 gross ++ leBytes 3 subsidy ++ [window]
    ++ leBytes 2 batchId

/-- Bytes 10 to 30 of a record (R182). -/
def RecordBody.bytes : RecordBody → List Byte
  | .enrol c a b => moneyBytes c a b 0 0 255 0
  | .debit c g u a b w => moneyBytes c a b g u (windowByte w) 0
  | .credit c a b => moneyBytes c a b 0 0 255 0
  | .batchCredit c a b i => moneyBytes c a b 0 0 255 i
  | .cash c a b => moneyBytes c a b 0 0 255 0
  | .adjust c a b => moneyBytes c a b 0 0 255 0
  | .retire c a b => moneyBytes c a b 0 0 255 0
  | .dayMark f l t d u c => leBytes 2 f ++ leBytes 2 l ++ leBytesInt 5 t ++ leBytes 4 d ++ leBytes 4 u ++ leBytes 4 c

/-- The 32 bytes JNL_NEXT returns, the check byte last (R182). -/
def Record.bytes (r : Record) : List Byte :=
  withCheck (leBytes 4 r.seq ++ [r.body.kindCode, BitVec.ofNat 8 r.source] ++ leBytes 2 r.minute ++ leBytes 2 r.day
    ++ r.body.bytes)

/-- The 25 bytes of a purse record with the held amount (R182). That bits 2 to 7 of the presence byte are 0 is a DESIGN CHOICE
(assumption 28). -/
def Purse.bytes (p : Purse) (held : Nat) : List Byte :=
  leBytes 4 p.card ++ [p.state.code, BitVec.ofNat 8 p.cls.val] ++ leBytesInt 4 p.balance
    ++ [BitVec.ofNat 8 (p.holdStation.getD 0)] ++ leBytes 3 held ++ leBytes 3 p.daySpend
    ++ leBytes 2 (p.daySpendStamp.getD 0) ++ leBytes 2 p.windowUsed
    ++ leBytes 2 ((p.occurrence.map Prod.fst).getD 0) ++ [BitVec.ofNat 8 ((p.occurrence.map Prod.snd).getD 0)]
    ++ [flagByte p.daySpendStamp.isSome p.occurrence.isSome false false false false false false]

/-- The 16 bytes of a summary (R181). -/
def BatchSummary.bytes (m : BatchSummary) : List Byte :=
  leBytes 2 m.appliedCount ++ leBytes 4 m.appliedTotal ++ leBytes 2 m.rejectedCount ++ leBytes 4 m.firstSeq
    ++ leBytes 4 m.lastSeq

end Sys2Proof.Machine
end

