-- ==== Sys2Proof/Machine/Ops.lean ====
section
/-! DEFINITION. The named operations over the state: writing a block's state, looking up and changing purses, stations,
holds and last-reply records, appending a journal record, reporting conditions and raising causes at the attention unit,
and saturating and wrapping counts. -/

namespace Sys2Proof.Machine

/-! ## Writing one block's state -/

/-- The state with the field `purses` replaced. -/
def State.setPurses (s : State) (p : PurseStore) : State := { s with purses := p }

/-- The state with the field `time` replaced. -/
def State.setTime (s : State) (t : TimeUnit) : State := { s with time := t }

/-- The state with the field `holds` replaced. -/
def State.setHolds (s : State) (h : HoldUnit) : State := { s with holds := h }

/-- The state with the field `credit` replaced. -/
def State.setCredit (s : State) (c : CreditUnit) : State := { s with credit := c }

/-- The state with the field `journal` replaced. -/
def State.setJournal (s : State) (j : Journal) : State := { s with journal := j }

/-- The state with the field `lane` replaced. -/
def State.setLane (s : State) (l : LaneUnit) : State := { s with lane := l }

/-- The state with the field `port` replaced. -/
def State.setPort (s : State) (p : LanePort) : State := { s with port := p }

/-- The state with the field `office` replaced. -/
def State.setOffice (s : State) (o : OfficePort) : State := { s with office := o }

/-- The state with the field `engine` replaced. -/
def State.setEngine (s : State) (e : EngineControl) : State := { s with engine := e }

/-- The state with the field `attention` replaced. -/
def State.setAttention (s : State) (a : AttentionUnit) : State := { s with attention := a }

/-- The state with the field `supply` replaced. -/
def State.setSupply (s : State) (v : Supply) : State := { s with supply := v }

/-- The state with the field `ticks` replaced. -/
def State.setTicks (s : State) (t : TickDue) : State := { s with ticks := t }

/-- The state with the field `openChoices` replaced. -/
def State.setOpenChoices (s : State) (n : Nat) : State := { s with openChoices := n }

/-- The state with the field `pending` replaced. -/
def State.setPending (s : State) (q : List Instr) : State := { s with pending := q }

/-! ## Vectors, counts and numbers -/

/-- Each entry of a vector replaced by its image. -/
def mapEntries {α : Type} {n : Nat} (f : α → α) (v : Vector α n) : Vector α n :=
  ⟨⟨v.toList.map f⟩, by simp⟩

/-- Increment of a saturating counter. -/
def bump (top n : Nat) : Nat := if n < top then n + 1 else n

/-- Addition to a saturating day total (R11). -/
def addTotal (total n : Nat) : Nat := min (total + n) Config.maxTotal

/-- The sequence number after `q` (R124). -/
def nextSequence (q : Nat) : Nat := if q = Config.maxSequence then 1 else q + 1

/-- The day number after `d` (R29). -/
def nextDay (d : Nat) : Nat := (d + 1) % Config.dayNumbers

/-- The day number before `d` (R130). -/
def previousDay (d : Nat) : Nat := if d = 0 then 65535 else d - 1

/-! ## Supply -/

/-- The blocks take requests, commands and ticks: VDD is present and RESETn is not low (R142). -/
def State.supplied (s : State) : Bool := s.supply.vdd && !s.supply.resetLow

/-- The next choice the manual leaves open has been met. -/
def State.meetOpenChoice (s : State) : State := s.setOpenChoices (s.openChoices + 1)

/-! ## Purses -/

/-- The purse record of a card, `none` when the card is unknown (R1). -/
def State.purse? (s : State) (card : Nat) : Option Purse := s.purses.purses.find? (fun p => p.card == card)

/-- The record of a card replaced by its image. -/
def State.modifyPurse (s : State) (card : Nat) (f : Purse → Purse) : State :=
  s.setPurses { s.purses with purses := s.purses.purses.map (fun p => if p.card = card then f p else p) }

/-- A record put at its place in card number order (R1, R15). -/
def insertPurse (p : Purse) : List Purse → List Purse
  | [] => [p]
  | q :: qs => if p.card < q.card then p :: q :: qs else q :: insertPurse p qs

/-- The class record of a purse, read at the moment of the computation (R8). -/
def State.classOf (s : State) (p : Purse) : ClassRecord := s.purses.classes[p.cls]

/-- The float total changed by `z` (R10). -/
def State.addFloat (s : State) (z : Int) : State :=
  s.setPurses { s.purses with floatTotal := s.purses.floatTotal + z }

/-- The day credit total raised (R11). -/
def State.addCreditTotal (s : State) (n : Nat) : State :=
  s.setPurses { s.purses with creditTotal := addTotal s.purses.creditTotal n }

/-- The day debit total raised by the purse amount and the day subsidy total by the subsidy (R11). -/
def State.addDebitTotals (s : State) (net subsidy : Nat) : State :=
  s.setPurses { s.purses with
    debitTotal := addTotal s.purses.debitTotal net, subsidyTotal := addTotal s.purses.subsidyTotal subsidy }

/-! ## Stations and holds -/

/-- The index of a station address in the vectors of 14; an address outside 1 to 14 has an index outside them. -/
def stationSlot (station : Nat) : Nat := if station = 0 then 14 else station - 1

/-- The station entry of an address (R60); an address outside 1 to 14 reads as kind NONE. -/
def State.station (s : State) (station : Nat) : StationEntry :=
  (s.holds.stations[stationSlot station]?).getD StationEntry.cold

/-- A station's last-expired card (R66). -/
def State.lastExpired (s : State) (station : Nat) : Option Nat :=
  (s.holds.lastExpired[stationSlot station]?).getD none

/-- A station's last-expired card written (R66). -/
def State.setLastExpired (s : State) (station : Nat) (card : Option Nat) : State :=
  s.setHolds { s.holds with lastExpired := s.holds.lastExpired.setIfInBounds (stationSlot station) card }

/-- A station's hold queue, head first (R64). -/
def State.queue (s : State) (station : Nat) : List Hold := s.holds.holds.filter (fun h => h.station == station)

/-- The number of open hold records (R63). -/
def State.poolCount (s : State) : Nat := s.holds.holds.length

/-- The hold for a card in a station's queue (R74). -/
def State.hold? (s : State) (card station : Nat) : Option Hold :=
  s.holds.holds.find? (fun h => h.card == card && h.station == station)

/-- The position of a card's hold in a station's queue, 0 for the head (R64). -/
def State.holdPosition (s : State) (card station : Nat) : Nat :=
  (s.queue station).findIdx (fun h => h.card == card)

/-- The amount a purse's open hold reserves: that of the hold its hold station names, 0 when absent (R5). -/
def State.heldAmount (s : State) (p : Purse) : Nat :=
  match p.holdStation with
  | none => 0
  | some st => ((s.hold? p.card st).map Hold.granted).getD 0

/-- A purse's hold station written (R5). -/
def State.setHoldStation (s : State) (card : Nat) (station : Option Nat) : State :=
  s.modifyPurse card (fun p => { p with holdStation := station })

/-- A removal (R65): the record leaves its queue, the gap closes, the record is free, the purse's hold station is absent. -/
def State.removeHold (s : State) (card station : Nat) : State :=
  (s.setHolds { s.holds with holds := s.holds.holds.filter (fun h => !(h.card == card && h.station == station)) }).setHoldStation
    card none

/-! ## The attention unit -/

/-- The flag of a cause. -/
def CauseFlags.get (f : CauseFlags) : Cause → Bool
  | .rollover => f.rollover
  | .laneBusFault => f.laneBusFault
  | .freezeChange => f.freezeChange
  | .blockedSeen => f.blockedSeen
  | .watchHit => f.watchHit
  | .journalHigh => f.journalHigh
  | .journalFull => f.journalFull
  | .overdue => f.overdue

/-- The flag of a cause written. -/
def CauseFlags.set (f : CauseFlags) (c : Cause) (b : Bool) : CauseFlags :=
  match c with
  | .rollover => { f with rollover := b }
  | .laneBusFault => { f with laneBusFault := b }
  | .freezeChange => { f with freezeChange := b }
  | .blockedSeen => { f with blockedSeen := b }
  | .watchHit => { f with watchHit := b }
  | .journalHigh => { f with journalHigh := b }
  | .journalFull => { f with journalFull := b }
  | .overdue => { f with overdue := b }

/-- A latched cause is raised (R177). -/
def State.raiseCause (s : State) (c : Cause) : State :=
  s.setAttention { s.attention with pending := s.attention.pending.set c true }

/-- A level condition begins (R176). -/
def AttentionUnit.conditionBegins (a : AttentionUnit) (c : Cause) : AttentionUnit :=
  { a with pending := a.pending.set c true, acknowledged := a.acknowledged.set c false, condition := a.condition.set c true }

/-- A level condition ends (R176): an acknowledged cause is cleared, one not taken yet stays pending. -/
def AttentionUnit.conditionEnds (a : AttentionUnit) (c : Cause) : AttentionUnit :=
  if a.acknowledged.get c then
    { a with pending := a.pending.set c false, acknowledged := a.acknowledged.set c false,
             condition := a.condition.set c false }
  else { a with condition := a.condition.set c false }

/-- The beginning of a condition reported to the attention unit when `b` holds. -/
def State.reportBegin (s : State) (c : Cause) (b : Bool) : State :=
  if b then s.setAttention (s.attention.conditionBegins c) else s

/-- The end of a condition reported to the attention unit when `b` holds. -/
def State.reportEnd (s : State) (c : Cause) (b : Bool) : State :=
  if b then s.setAttention (s.attention.conditionEnds c) else s

/-! ## The journal -/

/-- The occupancy n (R123). -/
def Journal.occupancy (j : Journal) : Nat := j.records.length

/-- The overdue state (R123). -/
def Journal.overdue (j : Journal) : Bool := j.timer == 0

/-- The sequence number of the oldest record held, 0 when the journal is empty (R123). -/
def Journal.oldest (j : Journal) : Nat := (j.records.head?.map Record.seq).getD 0

/-- The sequence number of the newest record held, 0 when the journal is empty (R123). -/
def Journal.newest (j : Journal) : Nat := (j.records.getLast?.map Record.seq).getD 0

/-- The number of records that lie before the read cursor: read and not confirmed (R131). -/
def Journal.readCount (j : Journal) : Nat := j.records.findIdx (fun r => r.seq == j.cursor)

/-- The oldest record held, or the next sequence number when the journal is empty (R131). -/
def Journal.start (j : Journal) : Nat := (j.records.head?.map Record.seq).getD j.nextSeq

/-- General room (R126). -/
def State.generalRoom (s : State) : Bool := decide (s.journal.occupancy < Config.generalLimit)

/-- Debit room (R126). -/
def State.debitRoom (s : State) : Bool := decide (s.journal.occupancy < Config.debitLimit)

/-- Day mark room (R126). -/
def State.dayMarkRoom (s : State) : Bool := decide (s.journal.occupancy < Config.journalPlaces)

/-- The record an append makes: the next sequence number, the clock minute and the day as they stand (R124, R125). -/
def State.newRecord (s : State) (source : Nat) (body : RecordBody) : Record :=
  { seq := s.journal.nextSeq, source := source, minute := s.time.minute, day := s.time.day, body := body }

/-- An append (R124), with the conditions it begins (R127): JOURNAL_HIGH when it brings the occupancy to the high-water
mark, JOURNAL_FULL when it brings it to 2,047. -/
def State.appendRecord (s : State) (source : Nat) (body : RecordBody) : State :=
  let n := s.journal.occupancy + 1
  ((s.setJournal { s.journal with
      records := s.journal.records ++ [s.newRecord source body], nextSeq := nextSequence s.journal.nextSeq }).reportBegin
    .journalHigh (decide (n = s.journal.highWater))).reportBegin .journalFull (decide (n = Config.debitLimit))

/-- The day totals set to 0 and their first-day stamp to the current day (R12). -/
def State.resetTotals (s : State) : State :=
  s.setPurses { s.purses with debitTotal := 0, subsidyTotal := 0, creditTotal := 0, firstDay := s.time.day }

/-- A DAY_MARK naming `lastDay` as the day just ended, written when there is room and withheld otherwise (R128, R129,
R130). -/
def State.writeDayMark (s : State) (lastDay : Nat) : State :=
  if s.dayMarkRoom then
    (s.appendRecord 0 (.dayMark s.purses.firstDay lastDay s.purses.floatTotal s.purses.debitTotal s.purses.subsidyTotal
      s.purses.creditTotal)).resetTotals
  else s

/-- A credit applied (R106): the balance, the float total and the day credit total rise by the amount, and one record is
appended. `body` makes the record from the balance after. -/
def State.applyCredit (s : State) (p : Purse) (amount source : Nat) (body : Int → RecordBody) : State :=
  (((s.modifyPurse p.card (fun q => { q with balance := q.balance + amount })).addFloat amount).addCreditTotal
    amount).appendRecord source (body (p.balance + amount))

/-! ## Last-reply records -/

/-- A station's last-reply record (R95). -/
def State.lastReply (s : State) (station : Nat) : Option LastReply :=
  (s.lane.lastReplies[stationSlot station]?).getD none

/-- A station's last-reply record written (R95). -/
def State.setLastReply (s : State) (station : Nat) (r : Option LastReply) : State :=
  s.setLane { s.lane with lastReplies := s.lane.lastReplies.setIfInBounds (stationSlot station) r }

end Sys2Proof.Machine
end

