-- ==== Sys2Proof/Machine/Flags.lean ====
section
/-! DEFINITION. The flag computations: when an attention cause is eligible, which cause a take finds, the reply period and
the link flags of the office link port. -/

namespace Sys2Proof.Machine

/-- The maskable causes (R175). -/
def Cause.maskable : Cause → Bool
  | .overdue => false
  | .journalFull => false
  | .journalHigh => true
  | .watchHit => true
  | .blockedSeen => true
  | .freezeChange => true
  | .laneBusFault => true
  | .rollover => true

/-- A cause is eligible when it is pending, its acknowledged flag is clear, and it is either not maskable or enabled with
the taken state off (R175). -/
def AttentionUnit.eligible (a : AttentionUnit) (c : Cause) : Bool :=
  a.pending.get c && !a.acknowledged.get c && (!c.maskable || (a.enabled.get c && !a.taken))

/-- The causes, highest number first (R178). -/
def causesHighestFirst : List Cause :=
  [.overdue, .journalFull, .journalHigh, .watchHit, .blockedSeen, .freezeChange, .laneBusFault, .rollover]

/-- The eligible cause with the highest number (R178). -/
def AttentionUnit.highest? (a : AttentionUnit) : Option Cause := causesHighestFirst.find? a.eligible

/-- Whether ATTN is asserted by the causes (R175). -/
def AttentionUnit.asserted (a : AttentionUnit) : Bool := causesHighestFirst.any a.eligible

/-- The reply period is on while a reply or an answering break is sent (R167), and from the rising edge of an accepted break
until its answering break ends (R169, R174), a start break in between included. -/
def OfficePort.replyPeriod (o : OfficePort) : Bool :=
  match o.transmit with
  | .reply _ => true
  | .answeringBreak => true
  | .idle => false
  | .startBreak answer => answer

/-- Every flag set that is set in one of the two (R169, R173: an abandoned reply sets again the flags it carried). -/
def LinkFlags.union (f g : LinkFlags) : LinkFlags :=
  { badRate := f.badRate || g.badRate, timeout := f.timeout || g.timeout, badCheck := f.badCheck || g.badCheck,
    handshake := f.handshake || g.handshake }

/-- The OVERDUE flag of a reply built now (R92). -/
def State.overdueFlag (s : State) : Bool := s.journal.overdue

end Sys2Proof.Machine
end

