-- ==== Sys2Proof/Machine/Operands.lean ====
section
/-! DEFINITION. The operand forms: what the body of each lane request and of each office command spells (R181), with the
checks a body must pass before anything is read from a block (R14, R88). A body that fails them spells nothing. -/

namespace Sys2Proof.Machine

/-- A card number that names a card (R14, R88). -/
def cardInRange (card : Nat) : Bool := decide (1 ≤ card) && decide (card ≤ Config.maxCard)

/-- The value of a body when it has its length and its fields pass. -/
def bodyOf {α : Type} (body : List Byte) (len : Nat) (ok : Bool) (value : α) : Option α :=
  if body.length = len ∧ ok = true then some value else none

/-- A body that must be empty. -/
def emptyBody (body : List Byte) : Option Unit := bodyOf body 0 true ()

/-- The card of a body of one card (R14). -/
def cardBody (body : List Byte) : Option Nat :=
  bodyOf body 4 (cardInRange (field body 0 4)) (field body 0 4)

/-- A class byte as a class index, `none` above 7. -/
def classIndex (n : Nat) : Option (Fin 8) := if h : n < 8 then some ⟨n, h⟩ else none

/-! ## Lane requests (R88) -/

/-- The bytes a request kind's body has (R181). -/
def RequestKind.bodyLength : RequestKind → Nat
  | .bal => 4
  | .drop => 4
  | .hold => 7
  | .settle => 7
  | .sale => 7
  | .cash => 7

/-- The largest third field that step 1 lets through; a cash amount is not checked at step 1 (R88). -/
def RequestKind.amountGood : RequestKind → Nat → Bool
  | .hold, n => decide (n ≤ Config.maxGross)
  | .settle, n => decide (n ≤ Config.maxGross)
  | .sale, n => decide (n ≤ Config.maxGross)
  | .bal, _ => true
  | .drop, _ => true
  | .cash, _ => true

/-- A request's body as step 1 reads it: the card, and the amount or gross (0 where the kind has none); `none` is
BAD_REQUEST. -/
def RequestKind.read (k : RequestKind) (body : List Byte) : Option (Nat × Nat) :=
  bodyOf body k.bodyLength (cardInRange (field body 0 4) && k.amountGood (field body 4 3)) (field body 0 4, field body 4 3)

/-! ## Office commands -/

/-- ENROL: card, class, opening balance (R15). -/
def enrolBody (body : List Byte) : Option (Nat × Fin 8 × Nat) :=
  (classIndex (field body 4 1)).bind fun c =>
    bodyOf body 8 (cardInRange (field body 0 4)) (field body 0 4, c, field body 5 3)

/-- RECLASS: card, class (R19). -/
def reclassBody (body : List Byte) : Option (Nat × Fin 8) :=
  (classIndex (field body 4 1)).bind fun c => bodyOf body 5 (cardInRange (field body 0 4)) (field body 0 4, c)

/-- ADJUST: card, signed amount (R20). -/
def adjustBody (body : List Byte) : Option (Nat × Int) :=
  bodyOf body 8 (cardInRange (field body 0 4)) (field body 0 4, signedField body 4 4)

/-- PURSE_NEXT: a card number that may be 0 (R22). -/
def purseNextBody (body : List Byte) : Option Nat :=
  bodyOf body 4 (decide (field body 0 4 ≤ Config.maxCard)) (field body 0 4)

/-- CREDIT and BATCH_ITEM: card, amount (R110, R114). -/
def creditBody (body : List Byte) : Option (Nat × Nat) :=
  bodyOf body 7 (cardInRange (field body 0 4)) (field body 0 4, field body 4 3)

/-- CLASS_SET: class index and the five fields (R9). -/
def classSetBody (body : List Byte) : Option (Fin 8 × ClassRecord) :=
  (classIndex (field body 0 1)).bind fun c =>
    bodyOf body 13 true (c, { rate := field body 1 2, cap := field body 3 2, floor := signedField body 5 2,
                              dayLimit := field body 7 3, holdCeiling := field body 10 3 })

/-- WINDOW_SET: the six entries (R37). -/
def windowSetBody (body : List Byte) : Option (Vector Window 6) :=
  bodyOf body 18 true (Vector.ofFn fun i : Fin 6 => windowOfValue (field body (3 * i.val) 3))

/-- ROLLOVER_SET: minute and flag (R34). -/
def rolloverSetBody (body : List Byte) : Option (Nat × Bool) :=
  bodyOf body 3 (decide (field body 0 2 < Config.minutesPerDay) && decide (field body 2 1 ≤ 1))
    (field body 0 2, decide (field body 2 1 = 1))

/-- STATION_SET: station, kind, quota, lifetime (R61). -/
def stationSetBody (body : List Byte) : Option (Nat × StationEntry) :=
  (StationKind.ofCode (field body 1 1)).bind fun k =>
    bodyOf body 5 (decide (1 ≤ field body 0 1) && decide (field body 0 1 ≤ 14))
      (field body 0 1, { kind := k, quota := field body 2 1, lifetime := field body 3 2 })

/-- JOURNAL_SET: high-water mark, overdue reload (R136). -/
def journalSetBody (body : List Byte) : Option (Nat × Nat) := bodyOf body 3 true (field body 0 2, field body 2 1)

/-- LANE_RATE_SET: rate code (R156). -/
def laneRateBody (body : List Byte) : Option Nat := bodyOf body 2 true (field body 0 2)

/-- CLOCK_SET: day, clock minute, second (R28). -/
def clockSetBody (body : List Byte) : Option (Nat × Nat × Nat) :=
  bodyOf body 5 (decide (field body 2 2 < Config.minutesPerDay) && decide (field body 4 1 < 60))
    (field body 0 2, field body 2 2, field body 4 1)

/-- FREEZE: limit (R147). -/
def freezeBody (body : List Byte) : Option Nat := bodyOf body 1 true (field body 0 1)

/-- BATCH_OPEN: batch id, declared count, declared total (R113). -/
def batchOpenBody (body : List Byte) : Option (Nat × Nat × Nat) :=
  bodyOf body 8 (decide (field body 0 2 ≠ 0)) (field body 0 2, field body 2 2, field body 4 4)

/-- BATCH_RESULT: index (R119). -/
def batchResultBody (body : List Byte) : Option Nat :=
  bodyOf body 2 (decide (field body 0 2 ≤ Config.maxBatch)) (field body 0 2)

/-- JNL_CONFIRM: sequence (R133). -/
def jnlConfirmBody (body : List Byte) : Option Nat := bodyOf body 4 (decide (field body 0 4 ≠ 0)) (field body 0 4)

/-- WATCH_SET: entry, card (R99). -/
def watchSetBody (body : List Byte) : Option (Nat × Nat) :=
  bodyOf body 5 (decide (field body 0 1 ≤ 3) && decide (field body 1 4 ≤ Config.maxCard)) (field body 0 1, field body 1 4)

/-- ATTN_ENABLE: the enables the mask names; a mask that names cause 6 or 7 is refused (R179). -/
def attnEnableBody (body : List Byte) : Option CauseFlags :=
  let m := body.headD 0
  bodyOf body 1 (!m.getLsbD 6 && !m.getLsbD 7)
    { rollover := m.getLsbD 0, laneBusFault := m.getLsbD 1, freezeChange := m.getLsbD 2, blockedSeen := m.getLsbD 3,
      watchHit := m.getLsbD 4, journalHigh := m.getLsbD 5, journalFull := false, overdue := false }

/-- The parts a status page has (R183). -/
def statusParts (page : Nat) : Nat := if page = 2 then 5 else if page = 3 then 2 else if page ≤ 7 then 1 else 0

/-- STATUS: page and part, a part the page has (R164, R183). -/
def statusBody (body : List Byte) : Option (Nat × Nat) :=
  bodyOf body 2 (decide (field body 1 1 < statusParts (field body 0 1))) (field body 0 1, field body 1 1)

end Sys2Proof.Machine
end

