-- ==== Sys2Proof/Machine/Time.lean ====
section
/-! DEFINITION. What the time unit computes for the other blocks: the day minute, the window found, and the check of a window
table (R35 to R38). -/

namespace Sys2Proof.Machine

/-- The day minute (R35). -/
def TimeUnit.dayMinute (t : TimeUnit) : Nat :=
  (t.minute + Config.minutesPerDay - t.rolloverMinute) % Config.minutesPerDay

/-- A used entry covers the day minutes from start up to, and not including, end (R36). -/
def Window.covers (w : Window) (m : Nat) : Bool := w.used && decide (w.start ≤ m) && decide (m < w.stop)

/-- The window for the present moment: its index and its subsidised flag, or none (R38). -/
def TimeUnit.windowFound (t : TimeUnit) : Option (Nat × Bool) :=
  (t.windows.toList.zipIdx.find? (fun e => e.1.covers t.dayMinute)).map (fun e => (e.2, e.1.subsidised))

/-- The index of the window for the present moment (R38). -/
def TimeUnit.windowIndex (t : TimeUnit) : Option Nat := t.windowFound.map Prod.fst

/-- The bounds of a used entry (R36, R37). -/
def Window.boundsGood (w : Window) : Bool := !w.used || (decide (w.start < w.stop) && decide (w.stop ≤ Config.minutesPerDay))

/-- Two used entries cover a common day minute (R37). -/
def Window.overlaps (v w : Window) : Bool :=
  v.used && w.used && decide (v.start < w.stop) && decide (w.start < v.stop)

/-- No entry of the list shares a day minute with a later one. -/
def disjointWindows : List Window → Bool
  | [] => true
  | w :: ws => ws.all (fun v => !w.overlaps v) && disjointWindows ws

/-- A window table is accepted: the bounds of its used entries are good and no two of them overlap (R37). -/
def windowTableGood (ws : Vector Window 6) : Bool := ws.toList.all Window.boundsGood && disjointWindows ws.toList

end Sys2Proof.Machine
end

