-- ==== Sys2Proof/Machine/Charge.lean ====
section
/-! DEFINITION. The charge unit: stages 1 to 11 of a charge (R41 to R55) and the granted amount of a HOLD (R56, R57). It holds
no state; everything is read as it stands when the request is taken. -/

namespace Sys2Proof.Machine

/-! ## Stages 1 to 6 -/

/-- Stage 1: the window that makes the charge eligible for subsidy, or none (R43). -/
def TimeUnit.eligibleWindow (t : TimeUnit) (c : ClassRecord) : Option Nat :=
  match t.windowFound with
  | some (w, true) => if 0 < c.rate then some w else none
  | some (_, false) => none
  | none => none

/-- Stage 2: the subsidy already used in the occurrence (day, window) (R44, R7). -/
def Purse.usedIn (p : Purse) (day window : Nat) : Nat :=
  if p.occurrence = some (day, window) then p.windowUsed else 0

/-- Stage 4: the cap room, 0 when the difference is negative (R46). -/
def capRoom (c : ClassRecord) (p : Purse) (day window : Nat) : Nat := c.cap - p.usedIn day window

/-- Stages 3 and 5: the subsidy of an eligible charge, the smaller of the raw subsidy and the cap room; 0 for a charge that
is not eligible (R45, R46). -/
def subsidyOf (c : ClassRecord) (p : Purse) (day : Nat) (eligible : Option Nat) (gross : Nat) : Nat :=
  match eligible with
  | some w => min (gross * c.rate / 1000) (capRoom c p day w)
  | none => 0

/-- What stages 1 to 6 compute for a charge (R43 to R47). -/
structure Charge where
  gross : Nat
  subsidy : Nat
  /-- The purse amount N. -/
  net : Nat
  /-- The window of an eligible charge. -/
  eligible : Option Nat
  /-- The window found, eligible or not. -/
  window : Option Nat
  deriving DecidableEq, Repr

/-- Stages 1 to 6 (R43 to R47). -/
def State.chargeOf (s : State) (p : Purse) (gross : Nat) : Charge :=
  let e := s.time.eligibleWindow (s.classOf p)
  let u := subsidyOf (s.classOf p) p s.time.day e gross
  { gross := gross, subsidy := u, net := gross - u, eligible := e, window := s.time.windowIndex }

/-! ## Stages 7 to 10 -/

/-- Stage 7: the day spend so far (R48, R6). -/
def Purse.spentOn (p : Purse) (day : Nat) : Nat := if p.daySpendStamp = some day then p.daySpend else 0

/-- Stages 8 to 10: the refusal of a charge, if any (R48 to R51). `kept` is the amount kept for another station's hold: 0 for
SETTLE, o for SALE. -/
def State.chargeRefusal (s : State) (p : Purse) (c : Charge) (kept : Nat) : Option LaneStatus :=
  let r := s.classOf p
  if 0 < r.dayLimit ∧ r.dayLimit < p.spentOn s.time.day + c.net then some .dayLimit
  else if p.balance - c.net < r.floor + kept then some .insufficient
  else if s.debitRoom = false then some .journalFull
  else none

/-- The amount a SALE at a station keeps for the hold of another station (R50, R81). -/
def State.keptForOther (s : State) (p : Purse) (station : Nat) : Nat :=
  if p.holdStation = some station then 0 else s.heldAmount p

/-! ## Stage 11 -/

/-- The purse fields stage 11 writes, but for the hold station (R52). -/
def Purse.charged (p : Purse) (c : Charge) (day : Nat) : Purse :=
  { p with
    balance := p.balance - c.net
    daySpend := min (p.spentOn day + c.net) Config.maxDaySpend
    daySpendStamp := some day
    windowUsed := match c.eligible with
      | some w => p.usedIn day w + c.subsidy
      | none => p.windowUsed
    occurrence := match c.eligible with
      | some w => some (day, w)
      | none => p.occurrence }

/-- The DEBIT record of a charge (R53). -/
def Charge.record (c : Charge) (p : Purse) : RecordBody :=
  .debit p.card c.gross c.subsidy (-(c.net : Int)) (p.balance - c.net) c.window

/-- Stage 11 at the purse store and the journal (R52, R53): purse, float total, day totals and DEBIT record. -/
def State.applyCharge (s : State) (p : Purse) (c : Charge) (station : Nat) : State :=
  (((s.modifyPurse p.card (fun q => q.charged c s.time.day)).addFloat
    (-(c.net : Int))).addDebitTotals c.net c.subsidy).appendRecord station (c.record p)

/-- The body of the reply to an applied charge (R54, R181). -/
def Charge.reply (c : Charge) (p : Purse) (seq : Nat) : List Byte :=
  leBytes 3 c.gross ++ leBytes 3 c.subsidy ++ leBytes 3 c.net ++ leBytesInt 4 (p.balance - c.net) ++ leBytes 4 seq

/-! ## The granted amount -/

/-- The available amount of a purse for its own station, B − F (R56). -/
def State.funds (s : State) (p : Purse) : Int := p.balance - (s.classOf p).floor

/-- The granted amount for a requested amount, or the refusal (R57). -/
def State.grantedAmount (s : State) (p : Purse) (asked : Nat) : Except LaneStatus Nat :=
  let r := s.classOf p
  let spent := p.spentOn s.time.day
  if asked = 0 then .ok 0
  else if 0 < r.dayLimit ∧ r.dayLimit ≤ spent then .error .dayLimit
  else if s.funds p ≤ 0 then .error .insufficient
  else
    let g := min asked r.holdCeiling
    let d := if 0 < r.dayLimit then min g (r.dayLimit - spent) else g
    .ok (min d (s.funds p).toNat)

end Sys2Proof.Machine
end

