-- ==== Sys2Proof/Machine/Answers.lean ====
section
/-! DEFINITION. How a request and a command are taken: the common checks of the lane request unit and its handing back of the
outcome (R85 to R102), and the taking of a good frame by the office link port with the building of the reply (R172 to
R174). -/

namespace Sys2Proof.Machine

/-! ## The lane request unit -/

/-- What the owning block, or a common check, answers to a lane request. `card` is the card the last-reply record gets, 0 for
a request refused at step 1 (R95). -/
structure LaneAnswer where
  card : Nat
  status : LaneStatus
  body : List Byte
  deriving DecidableEq, Repr

/-- A refusal has an empty body (R91). -/
def LaneAnswer.refuse (card : Nat) (status : LaneStatus) : LaneAnswer := { card := card, status := status, body := [] }

/-- The SHORT flag is set in the reply to a HOLD granted less than asked, which has status SHORT_OK (R92). -/
def LaneStatus.short : LaneStatus → Bool := fun st => st == .shortOk

/-- A hit on a watch entry that names the card (R100). -/
def WatchEntry.hit (w : WatchEntry) (station card : Nat) (kind : RequestKind) : WatchEntry :=
  if w.card = card then
    { w with latch := true, hits := bump Config.maxByteCount w.hits, lastStation := station, lastKind := some kind }
  else w

/-- Step 2: watch matching (R100). -/
def State.matchWatch (s : State) (station card : Nat) (kind : RequestKind) : State :=
  if s.lane.watch.toList.any (fun w => w.card == card) then
    (s.setLane { s.lane with watch := mapEntries (fun w => w.hit station card kind) s.lane.watch }).raiseCause .watchHit
  else s

/-- Step 3: the request kinds each station kind may send (R86, R89). -/
def RequestKind.allowed : RequestKind → StationKind → Bool
  | .bal, .till => true
  | .bal, .kiosk => true
  | .hold, .till => true
  | .settle, .till => true
  | .sale, .till => true
  | .drop, .till => true
  | .cash, .kiosk => true
  | _, _ => false

/-- Step 4: the refusal the engine state gives a request (R89). -/
def RequestKind.engineRefusal : RequestKind → EngineState → Option LaneStatus
  | _, .unset => some .notReady
  | _, .running => none
  | .bal, .frozen => none
  | .drop, .frozen => none
  | .hold, .frozen => some .frozen
  | .settle, .frozen => some .frozen
  | .sale, .frozen => some .frozen
  | .cash, .frozen => some .frozen

/-- Step 6's effect on the blocked-seen record (R102). -/
def State.seeBlocked (s : State) (station card : Nat) : State :=
  (s.setLane { s.lane with blockedSeen :=
    { card := card, station := station, minute := s.time.minute,
      count := bump Config.maxByteCount s.lane.blockedSeen.count } }).raiseCause .blockedSeen

/-- The common checks in their order, then step 7 by the owning block, which gets the purse, the amount field and the state
(R87 to R90). -/
def State.commonChecks (s : State) (kind : RequestKind) (station : Nat) (body : List Byte)
    (owner : Purse → Nat → State → State × LaneAnswer) : State × LaneAnswer :=
  match kind.read body with
  | none => (s, .refuse 0 .badRequest)
  | some (card, amount) =>
    let s1 := s.matchWatch station card kind
    if kind.allowed (s1.station station).kind = false then (s1, .refuse card .wrongStation)
    else
      match kind.engineRefusal s1.engine.state with
      | some st => (s1, .refuse card st)
      | none =>
        match s1.purse? card with
        | none => (s1, .refuse card .unknownCard)
        | some p =>
          if p.state = .blocked then (s1.seeBlocked station card, .refuse card .blocked)
          else owner p amount s1

/-- The last-reply record of an answered request (R95). -/
def LaneAnswer.record (a : LaneAnswer) (kind : Byte) : LastReply :=
  { kind := kind, card := a.card, status := a.status, short := a.status.short, body := a.body, delivered := false }

/-- The reply to an answered request (R91, R92). -/
def LaneAnswer.reply (a : LaneAnswer) (station : Nat) (overdue : Bool) : LaneReply :=
  { station := station, status := a.status, overdue := overdue, short := a.status.short, repeated := false, body := a.body }

/-- The reply is built and the station's last-reply record written (R91, R92, R95). -/
def State.answerRequest (station : Nat) (kind : Byte) (r : State × LaneAnswer) : State × Option LaneReply :=
  (r.1.setLastReply station (some (r.2.record kind)), some (r.2.reply station r.1.overdueFlag))

/-- The port takes back the outcome for a frame it handed on (R160, R161). It keeps it when it waits on that frame, and
discards it when a start bit has pre-empted the frame or no such frame was handed on. Of two frames handed on and not taken, the
older is matched first, and the outcome of a row for the newer one that comes before it is discarded, although the port may wait on
it: a DESIGN CHOICE (assumption 30). -/
def LanePort.takeBack (p : LanePort) (frame : LaneFrame) (outcome : Option LaneReply) : LanePort :=
  if p.handed.head? = some frame then
    let rest := p.handed.tail
    { p with
      handed := rest
      receiver := if rest = [] ∧ p.receiver = .turnaround .awaited then
          .turnaround (match outcome with
            | some r => .reply r
            | none => .noReply)
        else p.receiver }
  else p

/-- The port hands requests to the lane request unit: supplied, and past the restart mark (R142, R153). -/
def State.laneServed (s : State) : Bool := s.supplied && s.port.receiver != .mark

/-- The lane request unit takes a good frame as one event (R85). A frame of a station of kind NONE is not answered and
changes nothing. -/
def State.takeRequest (s : State) (station : Nat) (kind : Byte) (body : List Byte)
    (serve : State → State × Option LaneReply) : State :=
  if s.laneServed then
    let r := if (s.station station).kind = .none then (s, none) else serve s
    (r.1.setPort (r.1.port.takeBack { station := station, kind := kind, body := body } r.2)).setLane
      { r.1.lane with outcome := r.2 }
  else s

/-- A request of one of the six kinds that go through the common checks. -/
def State.takeChecked (s : State) (kind : RequestKind) (station : Nat) (body : List Byte)
    (owner : Purse → Nat → State → State × LaneAnswer) : State :=
  s.takeRequest station kind.code body
    (fun s0 => State.answerRequest station kind.code (s0.commonChecks kind station body owner))

/-! ## The office link port -/

/-- What the owning block answers to an office command. -/
structure OfficeAnswer where
  status : OfficeStatus
  body : List Byte
  deriving DecidableEq, Repr

/-- An accepted command's answer. -/
def OfficeAnswer.ok (body : List Byte) : OfficeAnswer := { status := .ok, body := body }

/-- A reply with a status other than OK has an empty body (R181). -/
def OfficeAnswer.refuse (status : OfficeStatus) : OfficeAnswer := { status := status, body := [] }

/-- The link is RATED (R167). -/
def OfficePort.rated (o : OfficePort) : Bool := o.bitTime.isSome

/-- The port receives frames: supplied, RATED and not waiting in RESYNC for the line to fall quiet (R142, R168, R170). Frames
are received from the rising edge of an accepted break onward, also in a start break (R169). -/
def State.officeReceives (s : State) : Bool := s.supplied && s.office.rated && s.office.receiver != .resync

/-- The receiver goes back to SEEKING at the end of a frame (R171). -/
def State.officeSeek (s : State) : State := s.setOffice { s.office with receiver := .seeking }

/-- The reply is built: the link flags are copied into it and cleared, and the reply period turns on (R172, R173). -/
def State.buildReply (s : State) (a : OfficeAnswer) : State :=
  s.setOffice { s.office with
    transmit := .reply { status := a.status, flags := s.office.flags, body := a.body }, flags := LinkFlags.clear }

/-- A good frame whose check character ends: discarded with HANDSHAKE while the reply period is on, and otherwise taken as
one event together with the work of the owning block (R171, R172, R174). The receiver goes back to SEEKING before the work is
done, which a STATUS of page 7 shows: a DESIGN CHOICE (assumption 27). In a start break no frame is received on an unrated link,
and on one rated meanwhile the reply period is on, so that a command is taken from the end of the start break at the earliest
(R153). -/
def State.takeCommand (s : State) (work : State → State × OfficeAnswer) : State :=
  if s.officeReceives then
    if s.office.replyPeriod then
      s.officeSeek.setOffice { s.officeSeek.office with flags := { s.office.flags with handshake := true } }
    else
      (work s.officeSeek).1.buildReply (work s.officeSeek).2
  else s

/-- A command whose body spells `α`: refused BAD_REQUEST when it does not. -/
def withBody {α : Type} (read : Option α) (work : α → State → State × OfficeAnswer) (s : State) : State × OfficeAnswer :=
  match read with
  | none => (s, .refuse .badRequest)
  | some x => work x s

/-- A command about a purse that must have a record: refused UNKNOWN_CARD when it has none. -/
def withPurse (card : Nat) (work : Purse → State → State × OfficeAnswer) (s : State) : State × OfficeAnswer :=
  match s.purse? card with
  | none => (s, .refuse .unknownCard)
  | some p => work p s

end Sys2Proof.Machine
end

