-- ==== Sys2Proof/Machine/LaneRequests.lean ====
section
/-! DEFINITION. The lane requests: BAL, HOLD, SETTLE, SALE, DROP, CASH, REPEAT and a request of an unknown kind. -/

namespace Sys2Proof.Machine

/-! ## BAL (R93) -/

/-- The subsidy room now: the cap room of the present occurrence at a moment that makes a charge eligible, 0 at any other
(R93). -/
def State.subsidyRoomNow (s : State) (p : Purse) : Nat :=
  match s.time.eligibleWindow (s.classOf p) with
  | some w => capRoom (s.classOf p) p s.time.day w
  | none => 0

/-- The day room, 0 for a class without a day limit (R93). -/
def State.dayRoomNow (s : State) (p : Purse) : Nat := (s.classOf p).dayLimit - p.spentOn s.time.day

/-- The body of a BAL reply (R93, R181). -/
def State.balBody (s : State) (p : Purse) : List Byte :=
  leBytesInt 4 (p.balance - s.heldAmount p - (s.classOf p).floor) ++ leBytesInt 4 p.balance ++ leBytes 3 (s.heldAmount p)
    ++ leBytes 2 (s.subsidyRoomNow p) ++ leBytes 3 (s.dayRoomNow p) ++ [boolByte (decide ((s.classOf p).dayLimit = 0))]

/-- Step 7 of a BAL: no further check, and nothing is changed (R90, R93). -/
def balOwner (p : Purse) (_amount : Nat) (s : State) : State × LaneAnswer :=
  (s, { card := p.card, status := .ok, body := s.balBody p })

/-- BAL. -/
def execBal (station : Nat) (body : List Byte) (s : State) : Host.Outcome State Fault Refusal :=
  .next (s.takeChecked .bal station body balOwner)

/-! ## HOLD (R68 to R73) -/

/-- The answer to a HOLD that granted `g` of `asked` (R58, R94). -/
def State.holdAnswer (s : State) (p : Purse) (asked g position : Nat) : LaneAnswer :=
  { card := p.card, status := if g = asked then .ok else .shortOk,
    body := leBytes 4 g ++ [BitVec.ofNat 8 position] ++ leBytesInt 4 (s.funds p - g) }

/-- Opening a hold (R70): a free record at the tail of the station's queue, the purse's hold station, and a last-expired
card that names the card made absent. -/
def State.openHold (s : State) (station card g : Nat) : State :=
  let s1 := (s.setHolds { s.holds with
    holds := s.holds.holds ++ [{ card := card, station := station, granted := g,
                                 remaining := (s.station station).lifetime }] }).setHoldStation card (some station)
  if s1.lastExpired station = some card then s1.setLastExpired station none else s1

/-- Refreshing a hold in place (R72): a new granted amount and the station's lifetime as it stands now. -/
def State.refreshHold (s : State) (station card g : Nat) : State :=
  s.setHolds { s.holds with
    holds := s.holds.holds.map (fun h =>
      if h.card = card ∧ h.station = station then { h with granted := g, remaining := (s.station station).lifetime } else h) }

/-- The checks of a new hold and its opening (R69, R70). -/
def State.newHold (s : State) (p : Purse) (station asked : Nat) : State × LaneAnswer :=
  if (s.station station).quota ≤ (s.queue station).length then (s, .refuse p.card .queueFull)
  else if Config.poolSize ≤ s.poolCount then (s, .refuse p.card .poolFull)
  else
    match s.grantedAmount p asked with
    | .error st => (s, .refuse p.card st)
    | .ok g => (s.openHold station p.card g, s.holdAnswer p asked g (s.queue station).length)

/-- A refresh of the station's own hold (R72, R73). -/
def State.refresh (s : State) (p : Purse) (station asked : Nat) : State × LaneAnswer :=
  match s.grantedAmount p asked with
  | .error st => (s, .refuse p.card st)
  | .ok g => (s.refreshHold station p.card g, s.holdAnswer p asked g (s.holdPosition p.card station))

/-- Step 7 of a HOLD, by the purse's hold station (R68). -/
def holdOwner (station : Nat) (p : Purse) (asked : Nat) (s : State) : State × LaneAnswer :=
  match p.holdStation with
  | none => s.newHold p station asked
  | some st => if st = station then s.refresh p station asked else (s, .refuse p.card .inUse)

/-- HOLD. -/
def execHold (station : Nat) (body : List Byte) (s : State) : Host.Outcome State Fault Refusal :=
  .next (s.takeChecked .hold station body (holdOwner station))

/-! ## SETTLE (R74, R75) -/

/-- A charge whose checks have been made: refused, or applied with its answer (R48 to R54). -/
def State.charge (s : State) (p : Purse) (station gross kept : Nat) : Option LaneStatus × State × LaneAnswer :=
  let c := s.chargeOf p gross
  match s.chargeRefusal p c kept with
  | some st => (some st, s, .refuse p.card st)
  | none => (none, s.applyCharge p c station,
      { card := p.card, status := .ok, body := c.reply p s.journal.nextSeq })

/-- A SETTLE that finds no hold of the station for the card (R75). -/
def State.settleWithoutHold (s : State) (p : Purse) (station : Nat) : State × LaneAnswer :=
  if s.lastExpired station = some p.card then (s.setLastExpired station none, .refuse p.card .holdExpired)
  else (s, .refuse p.card .noHold)

/-- Step 7 of a SETTLE (R74): the station's own hold is looked up; an applied charge removes it (R52). -/
def settleOwner (station : Nat) (p : Purse) (gross : Nat) (s : State) : State × LaneAnswer :=
  match s.hold? p.card station with
  | none => s.settleWithoutHold p station
  | some _ =>
    match s.charge p station gross 0 with
    | (some _, s1, a) => (s1, a)
    | (none, s1, a) => (s1.removeHold p.card station, a)

/-- SETTLE. -/
def execSettle (station : Nat) (body : List Byte) (s : State) : Host.Outcome State Fault Refusal :=
  .next (s.takeChecked .settle station body (settleOwner station))

/-! ## SALE (R50) -/

/-- Step 7 of a SALE: no hold is touched (R50, R52). -/
def saleOwner (station : Nat) (p : Purse) (gross : Nat) (s : State) : State × LaneAnswer :=
  (s.charge p station gross (s.keptForOther p station)).2

/-- SALE. -/
def execSale (station : Nat) (body : List Byte) (s : State) : Host.Outcome State Fault Refusal :=
  .next (s.takeChecked .sale station body (saleOwner station))

/-! ## DROP (R76) -/

/-- Step 7 of a DROP. -/
def dropOwner (station : Nat) (p : Purse) (_amount : Nat) (s : State) : State × LaneAnswer :=
  match s.hold? p.card station with
  | none => (s, .refuse p.card .noHold)
  | some h => (s.removeHold p.card station, { card := p.card, status := .ok, body := leBytes 3 h.granted })

/-- DROP. -/
def execDrop (station : Nat) (body : List Byte) (s : State) : Host.Outcome State Fault Refusal :=
  .next (s.takeChecked .drop station body (dropOwner station))

/-! ## CASH (R107, R108) -/

/-- Step 7 of a CASH: the credit unit's checks in their order, then the credit. -/
def cashOwner (station : Nat) (p : Purse) (amount : Nat) (s : State) : State × LaneAnswer :=
  if amount = 0 ∨ Config.maxCash < amount then (s, .refuse p.card .badRequest)
  else if s.overdueFlag then (s, .refuse p.card .overdueRefused)
  else if Config.maxBalance < p.balance + amount then (s, .refuse p.card .purseFull)
  else if s.generalRoom = false then (s, .refuse p.card .journalFull)
  else
    (s.applyCredit p amount station (fun b => .cash p.card amount b),
      { card := p.card, status := .ok,
        body := leBytes 3 amount ++ leBytesInt 4 (p.balance + amount) ++ leBytes 4 s.journal.nextSeq })

/-- CASH. -/
def execCash (station : Nat) (body : List Byte) (s : State) : Host.Outcome State Fault Refusal :=
  .next (s.takeChecked .cash station body (cashOwner station))

/-! ## REPEAT (R97) and unknown kinds (R88) -/

/-- The reply to a REPEAT (R97, R92, R181). -/
def State.repeatReply (s : State) (station : Nat) : LaneReply :=
  match s.lastReply station with
  | none => { station := station, status := .noReply, overdue := s.overdueFlag, short := false, repeated := true, body := [] }
  | some r =>
    { station := station, status := r.status, overdue := s.overdueFlag, short := r.short, repeated := true,
      body := [r.kind] ++ leBytes 4 r.card ++ [boolByte r.delivered] ++ r.body }

/-- REPEAT: taken without the common checks; it reads the station's record and does not write it. -/
def execRepeatReply (station : Nat) (body : List Byte) (s : State) : Host.Outcome State Fault Refusal :=
  .next (s.takeRequest station repeatCode body (fun s0 => (s0, some (s0.repeatReply station))))

/-- UNKNOWN_REQUEST_KIND: refused at step 1 and recorded (R88, R95). A kind that is one of the seven is not this row's
event. -/
def execUnknownRequestKind (station : Nat) (kind : Byte) (body : List Byte) (s : State) : Host.Outcome State Fault Refusal :=
  .next (if 1 ≤ kind.toNat ∧ kind.toNat ≤ 7 then s
    else s.takeRequest station kind body
      (fun s0 => State.answerRequest station kind (s0, .refuse 0 .badRequest)))

end Sys2Proof.Machine
end

