-- ==== Sys2Proof/Machine/Lines.lean ====
section
/-! DEFINITION. The output lines as functions of the state: ATTN, OVDn, LBUS with LBDIR, OTX (R138, R142, R153, R155, R162,
R165, R169, R170, R173, R175; section 11.4). -/

namespace Sys2Proof.Machine

/-- ATTN is asserted (low) while a cause is eligible; released while RESETn is low or VDD absent (R175, R142). -/
def State.attnAsserted (s : State) : Bool := s.supplied && s.attention.asserted

/-- OVDn is asserted (low) while the overdue state is on; released while RESETn is low or VDD absent (R138, R139, R142). -/
def State.ovdnAsserted (s : State) : Bool := s.supplied && s.journal.overdue

/-- The refusal signal on LBUS: low for the whole of the first guard bit (R159). -/
def refusalSignal : List Bool := [false]

/-- What the CP240 drives on LBUS, bit time by bit time, `true` for released: the restart mark is 24 low bits (R165), a reply
the bits of its characters (R155, R162), and a BROKEN that a refusal led to shows the refusal signal at whose end it was
entered (R159; assumption 29). In every other state the line is released. -/
def State.lbusBits (s : State) : List Bool :=
  if s.supplied then
    match s.port.receiver with
    | .mark => List.replicate 24 false
    | .replying r => r.frame.flatMap laneCharacter
    | .broken refusal => if refusal then refusalSignal else []
    | .idle => []
    | .receiving => []
    | .turnaround _ => []
  else []

/-- LBDIR, bit time by bit time along LBUS: high while the CP240 pulls LBUS low, in a reply, in the refusal signal and in the
restart mark, and low at every other time (R162). -/
def State.lbdirBits (s : State) : List Bool := s.lbusBits.map not

/-- What the CP240 sends on OTX, bit time by bit time at T, `true` for high (R169, R170, R173). The start break has no rate
and is `State.otxStartBreak`. -/
def State.otxBits (s : State) : List Bool :=
  if s.supplied then
    match s.office.transmit with
    | .reply r => r.frame.flatMap officeCharacter
    | .answeringBreak => List.replicate 2 true ++ List.replicate 10 false
    | .idle => []
    | .startBreak _ => []
  else []

/-- The length of the start break in microseconds (R153). -/
def startBreakMicroseconds : Nat := 2100

/-- OTX is held low for the start break (R153). -/
def State.otxStartBreak (s : State) : Bool :=
  s.supplied &&
    match s.office.transmit with
    | .startBreak _ => true
    | .idle => false
    | .reply _ => false
    | .answeringBreak => false

end Sys2Proof.Machine
end

