-- ==== Sys2Proof/Machine/Credits.lean ====
section
/-! DEFINITION. The office commands of the credit unit: CREDIT (R110, R111) and the payroll batch (R112 to R119). -/

namespace Sys2Proof.Machine

/-! ## CREDIT (R110, R111) -/

/-- The work of CREDIT. -/
def creditWork (body : List Byte) : State → State × OfficeAnswer :=
  withBody (creditBody body) fun (card, amount) s =>
    if s.engine.state = .unset then (s, .refuse .wrongState)
    else if amount = 0 ∨ Config.maxCredit < amount then (s, .refuse .range)
    else
      withPurse card (fun p s =>
        if Config.maxBalance < p.balance + amount then (s, .refuse .purseFull)
        else if s.generalRoom = false then (s, .refuse .noRoom)
        else
          (s.applyCredit p amount 0 (fun b => .credit card amount b),
            .ok (leBytesInt 4 (p.balance + amount) ++ leBytes 4 s.journal.nextSeq))) s

/-- CREDIT. -/
def execCredit (body : List Byte) (s : State) : Host.Outcome State Fault Refusal :=
  .next (s.takeCommand (creditWork body))

/-! ## BATCH_OPEN and BATCH_ITEM (R113, R114) -/

/-- The work of BATCH_OPEN. -/
def batchOpenWork (body : List Byte) : State → State × OfficeAnswer :=
  withBody (batchOpenBody body) fun (batchId, count, total) s =>
    if count = 0 ∨ Config.maxBatch < count then (s, .refuse .range)
    else if total < count ∨ count * 200000 < total then (s, .refuse .range)
    else if s.credit.state = .opened then (s, .refuse .batchState)
    else
      (s.setCredit { state := .opened, batchId := batchId, declaredCount := count, declaredTotal := total, staging := [],
                     stagedSum := 0, results := [], summary := BatchSummary.zero }, .ok [])

/-- BATCH_OPEN. -/
def execBatchOpen (body : List Byte) (s : State) : Host.Outcome State Fault Refusal :=
  .next (s.takeCommand (batchOpenWork body))

/-- The work of BATCH_ITEM. -/
def batchItemWork (body : List Byte) : State → State × OfficeAnswer :=
  withBody (creditBody body) fun (card, amount) s =>
    if amount = 0 ∨ Config.maxCredit < amount then (s, .refuse .range)
    else if s.credit.state ≠ .opened then (s, .refuse .batchState)
    else if s.credit.declaredCount ≤ s.credit.staging.length then (s, .refuse .countExceeded)
    else
      (s.setCredit { s.credit with
          staging := s.credit.staging ++ [{ card := card, amount := amount }]
          stagedSum := s.credit.stagedSum + amount },
        .ok (leBytes 2 (s.credit.staging.length + 1) ++ leBytes 4 (s.credit.stagedSum + amount)))

/-- BATCH_ITEM. -/
def execBatchItem (body : List Byte) (s : State) : Host.Outcome State Fault Refusal :=
  .next (s.takeCommand (batchItemWork body))

/-! ## BATCH_CLOSE (R115 to R117) -/

/-- The summary and the result list of a close as they grow item by item (R117). -/
structure CloseTally where
  summary : BatchSummary
  /-- In item order. -/
  results : List RejectedItem
  deriving DecidableEq, Repr

/-- The tally before the first item. -/
def CloseTally.zero : CloseTally := { summary := BatchSummary.zero, results := [] }

/-- An item rejected (R117). -/
def CloseTally.reject (t : CloseTally) (index card : Nat) (reason : RejectReason) : CloseTally :=
  { summary := { t.summary with rejectedCount := t.summary.rejectedCount + 1 },
    results := t.results ++ [{ index := index, card := card, reason := reason }] }

/-- An item applied with the record `seq` (R117). -/
def CloseTally.apply (t : CloseTally) (amount seq : Nat) : CloseTally :=
  { t with summary := { t.summary with
      appliedCount := t.summary.appliedCount + 1
      appliedTotal := t.summary.appliedTotal + amount
      firstSeq := if t.summary.appliedCount = 0 then seq else t.summary.firstSeq
      lastSeq := seq } }

/-- Why an item is rejected, if it is (R116). -/
def State.itemRefusal (s : State) (item : BatchItem) : Option RejectReason :=
  if s.generalRoom = false then some .noRoom
  else
    match s.purse? item.card with
    | none => some .unknownCard
    | some p => if Config.maxBalance < p.balance + item.amount then some .purseFull else none

/-- One item of a close, against the state the earlier items left (R116). -/
def State.closeItem (s : State) (t : CloseTally) (index : Nat) (item : BatchItem) : State × CloseTally :=
  match s.itemRefusal item, s.purse? item.card with
  | none, some p =>
    (s.applyCredit p item.amount 0 (fun b => .batchCredit item.card item.amount b s.credit.batchId),
      t.apply item.amount s.journal.nextSeq)
  | none, none => (s, t.reject index item.card .unknownCard)
  | some reason, _ => (s, t.reject index item.card reason)

/-- The items of a close in list order, the first with index `index` (R116). -/
def closeItems : List BatchItem → Nat → State → CloseTally → State × CloseTally
  | [], _, s, t => (s, t)
  | item :: items, index, s, t => closeItems items (index + 1) (s.closeItem t index item).1 (s.closeItem t index item).2

/-- A close that passes the checks: every item applied or rejected, results and summary written, CLOSED entered (R116,
R117). -/
def State.closeBatch (s : State) : State × OfficeAnswer :=
  let r := closeItems s.credit.staging 1 s CloseTally.zero
  (r.1.setCredit { s.credit with state := .closed, results := r.2.results, summary := r.2.summary }, .ok r.2.summary.bytes)

/-- The work of BATCH_CLOSE. -/
def batchCloseWork (body : List Byte) : State → State × OfficeAnswer :=
  withBody (emptyBody body) fun _ s =>
    if s.credit.state ≠ .opened then (s, .refuse .batchState)
    else if s.engine.state = .unset then (s, .refuse .wrongState)
    else if s.credit.staging.length ≠ s.credit.declaredCount ∨ s.credit.stagedSum ≠ s.credit.declaredTotal then
      (s, .refuse .mismatch)
    else s.closeBatch

/-- BATCH_CLOSE. -/
def execBatchClose (body : List Byte) (s : State) : Host.Outcome State Fault Refusal :=
  .next (s.takeCommand (batchCloseWork body))

/-! ## BATCH_ABORT and BATCH_RESULT (R118, R119) -/

/-- The work of BATCH_ABORT. -/
def batchAbortWork (body : List Byte) : State → State × OfficeAnswer :=
  withBody (emptyBody body) fun _ s =>
    if s.credit.state ≠ .opened then (s, .refuse .batchState)
    else
      (s.setCredit { s.credit with
          state := .none, batchId := 0, declaredCount := 0, declaredTotal := 0, staging := [], stagedSum := 0 },
        .ok (leBytes 2 s.credit.staging.length))

/-- BATCH_ABORT. -/
def execBatchAbort (body : List Byte) (s : State) : Host.Outcome State Fault Refusal :=
  .next (s.takeCommand (batchAbortWork body))

/-- The batch page (R119, R181). -/
def CreditUnit.page (c : CreditUnit) : List Byte :=
  [c.state.code] ++ leBytes 2 c.batchId ++ leBytes 2 c.declaredCount ++ leBytes 4 c.declaredTotal
    ++ leBytes 2 c.staging.length ++ leBytes 4 c.stagedSum ++ c.summary.bytes

/-- The result entry of an index from 1 in a CLOSED batch (R119). -/
def CreditUnit.resultAt (c : CreditUnit) (index : Nat) : Option RejectedItem :=
  if c.state = .closed then c.results[index - 1]? else none

/-- The 7 bytes of a result entry (R181). -/
def RejectedItem.bytes (r : RejectedItem) : List Byte := leBytes 2 r.index ++ leBytes 4 r.card ++ [r.reason.code]

/-- The work of BATCH_RESULT. -/
def batchResultWork (body : List Byte) : State → State × OfficeAnswer :=
  withBody (batchResultBody body) fun index s =>
    if index = 0 then (s, .ok s.credit.page)
    else
      match s.credit.resultAt index with
      | some r => (s, .ok r.bytes)
      | none => (s, .refuse .atEnd)

/-- BATCH_RESULT. -/
def execBatchResult (body : List Byte) (s : State) : Host.Outcome State Fault Refusal :=
  .next (s.takeCommand (batchResultWork body))

end Sys2Proof.Machine
end

