-- ==== Sys2Proof/Machine/Engine.lean ====
section
/-! DEFINITION. The office commands of engine control: GO, FREEZE, THAW, RESTART (R146 to R148, R152). -/

namespace Sys2Proof.Machine

/-- The work of GO (R146). -/
def goWork (body : List Byte) : State → State × OfficeAnswer :=
  withBody (emptyBody body) fun _ s =>
    if s.engine.state = .unset ∧ s.time.valid = true then
      (s.setEngine { s.engine with state := .running }, .ok [])
    else (s, .refuse .wrongState)

/-- GO. -/
def execGo (body : List Byte) (s : State) : Host.Outcome State Fault Refusal :=
  .next (s.takeCommand (goWork body))

/-- Engine control after an accepted FREEZE (R147): a limit of 0 keeps the stored one; a freeze in progress keeps its
reason. -/
def EngineControl.freeze (e : EngineControl) (limit : Nat) : EngineControl :=
  let l := if limit = 0 then e.limit else limit
  { e with state := .frozen, limit := l, timer := l * 60, reason := if e.state = .frozen then e.reason else some .office }

/-- The work of FREEZE. -/
def freezeWork (body : List Byte) : State → State × OfficeAnswer :=
  withBody (freezeBody body) fun limit s =>
    if 15 < limit then (s, .refuse .range)
    else if s.engine.state = .unset then (s, .refuse .wrongState)
    else
      let e := s.engine.freeze limit
      (s.setEngine e, .ok ([freezeReasonCode e.reason] ++ leBytes 2 e.timer))

/-- FREEZE. -/
def execFreeze (body : List Byte) (s : State) : Host.Outcome State Fault Refusal :=
  .next (s.takeCommand (freezeWork body))

/-- Engine control back in RUNNING (R148, R149). -/
def EngineControl.run (e : EngineControl) : EngineControl := { e with state := .running, reason := none, timer := 0 }

/-- The work of THAW (R148). -/
def thawWork (body : List Byte) : State → State × OfficeAnswer :=
  withBody (emptyBody body) fun _ s =>
    if s.engine.state = .frozen then (s.setEngine s.engine.run, .ok [freezeReasonCode s.engine.reason])
    else (s, .refuse .wrongState)

/-- THAW. -/
def execThaw (body : List Byte) (s : State) : Host.Outcome State Fault Refusal :=
  .next (s.takeCommand (thawWork body))

/-- The work of RESTART (R152): the warm start begins when the reply has been sent. -/
def restartWork (body : List Byte) : State → State × OfficeAnswer :=
  withBody (emptyBody body) fun _ s => (s.setOffice { s.office with restartPending := true }, .ok [])

/-- RESTART. -/
def execRestart (body : List Byte) (s : State) : Host.Outcome State Fault Refusal :=
  .next (s.takeCommand (restartWork body))

end Sys2Proof.Machine
end

