-- ==== Sys2Proof/Machine/JournalCommands.lean ====
section
/-! DEFINITION. The office commands of the settlement journal: JNL_NEXT, JNL_CONFIRM, JNL_REWIND, JOURNAL_SET (R132 to R134,
R136), and the end of the overdue state (R139). -/

namespace Sys2Proof.Machine

/-! ## JNL_NEXT (R132) -/

/-- The record at the read cursor (R131). -/
def Journal.atCursor? (j : Journal) : Option Record := j.records.find? (fun r => r.seq == j.cursor)

/-- The work of JNL_NEXT. -/
def jnlNextWork (body : List Byte) : State → State × OfficeAnswer :=
  withBody (emptyBody body) fun _ s =>
    match s.journal.atCursor? with
    | some r => (s.setJournal { s.journal with cursor := nextSequence s.journal.cursor }, .ok r.bytes)
    | none => (s, .refuse .empty)

/-- JNL_NEXT. -/
def execJnlNext (body : List Byte) (s : State) : Host.Outcome State Fault Refusal :=
  .next (s.takeCommand (jnlNextWork body))

/-! ## JNL_CONFIRM (R133) -/

/-- The number of records from the oldest up to and including the one with this sequence number, when that record lies before
the read cursor (R133). -/
def Journal.confirmCount (j : Journal) (seq : Nat) : Option Nat :=
  let i := j.records.findIdx (fun r => r.seq == seq)
  if i < j.readCount ∧ i < j.occupancy then some (i + 1) else none

/-- The occupancy lies at or above the high-water mark (R127). -/
def Journal.high (j : Journal) : Bool := decide (j.highWater ≤ j.occupancy)

/-- The occupancy lies at 2,047 or more (R127). -/
def Journal.full (j : Journal) : Bool := decide (Config.debitLimit ≤ j.occupancy)

/-- A new journal written, with the ends of the conditions the old one held and the new one does not (R127, R133, R139). -/
def State.lowerJournal (s : State) (j : Journal) : State :=
  (((s.setJournal j).reportEnd .overdue (s.journal.overdue && !j.overdue)).reportEnd .journalHigh
    (s.journal.high && !j.high)).reportEnd .journalFull (s.journal.full && !j.full)

/-- The oldest `k` records removed; below the high-water mark the overdue timer is loaded again (R133). -/
def Journal.confirm (j : Journal) (k : Nat) : Journal :=
  { j with
    records := j.records.drop k
    timer := if (j.records.drop k).length < j.highWater then j.reload else j.timer }

/-- The work of JNL_CONFIRM. -/
def jnlConfirmWork (body : List Byte) : State → State × OfficeAnswer :=
  withBody (jnlConfirmBody body) fun seq s =>
    match s.journal.confirmCount seq with
    | none => (s, .refuse .notRead)
    | some k =>
      let j := s.journal.confirm k
      (s.lowerJournal j, .ok (leBytes 2 k ++ leBytes 2 j.occupancy ++ leBytes 4 j.oldest))

/-- JNL_CONFIRM. -/
def execJnlConfirm (body : List Byte) (s : State) : Host.Outcome State Fault Refusal :=
  .next (s.takeCommand (jnlConfirmWork body))

/-! ## JNL_REWIND (R134) -/

/-- The work of JNL_REWIND. -/
def jnlRewindWork (body : List Byte) : State → State × OfficeAnswer :=
  withBody (emptyBody body) fun _ s =>
    (s.setJournal { s.journal with cursor := s.journal.start },
      .ok (leBytes 4 s.journal.oldest ++ leBytes 2 s.journal.occupancy))

/-- JNL_REWIND. -/
def execJnlRewind (body : List Byte) (s : State) : Host.Outcome State Fault Refusal :=
  .next (s.takeCommand (jnlRewindWork body))

/-! ## JOURNAL_SET (R136) -/

/-- The overdue timer after an accepted JOURNAL_SET (R136). -/
def Journal.timerAfterSet (j : Journal) (mark reload : Nat) : Nat :=
  if j.occupancy < mark then reload
  else if j.occupancy < j.highWater then reload
  else min j.timer reload

/-- The settings written (R136). -/
def Journal.withSettings (j : Journal) (mark reload : Nat) : Journal :=
  { j with highWater := mark, reload := reload, timer := j.timerAfterSet mark reload }

/-- The settings are in their ranges (R123, R136). -/
def journalSettingsGood (mark reload : Nat) : Bool :=
  decide (256 ≤ mark) && decide (mark ≤ 1920) && decide (5 ≤ reload) && decide (reload ≤ 120)

/-- The work of JOURNAL_SET. -/
def journalSetWork (body : List Byte) : State → State × OfficeAnswer :=
  withBody (journalSetBody body) fun (mark, reload) s =>
    if journalSettingsGood mark reload = false then (s, .refuse .range)
    else
      let j := s.journal.withSettings mark reload
      ((s.lowerJournal j).reportBegin .journalHigh (!s.journal.high && j.high), .ok [])

/-- JOURNAL_SET. -/
def execJournalSet (body : List Byte) (s : State) : Host.Outcome State Fault Refusal :=
  .next (s.takeCommand (journalSetWork body))

end Sys2Proof.Machine
end

