-- ==== Sys2Proof/Machine/Purses.lean ====
section
/-! DEFINITION. The office commands of the purse store (R9, R14 to R22). They are taken in every engine state. -/

namespace Sys2Proof.Machine

/-- The body of a reply with a sequence number and a balance (R181). -/
def seqBalance (seq : Nat) (balance : Int) : List Byte := leBytes 4 seq ++ leBytesInt 4 balance

/-! ## ENROL (R15) -/

/-- A record as ENROL creates it (R2). -/
def Purse.enrolled (card : Nat) (cls : Fin 8) (opening : Nat) : Purse :=
  { card := card, state := .active, cls := cls, balance := opening, holdStation := none, daySpend := 0, daySpendStamp := none,
    windowUsed := 0, occurrence := none }

/-- A record put into the table (R1). -/
def State.addPurse (s : State) (p : Purse) : State :=
  s.setPurses { s.purses with purses := insertPurse p s.purses.purses }

/-- The work of ENROL. -/
def enrolWork (body : List Byte) : State → State × OfficeAnswer :=
  withBody (enrolBody body) fun (card, cls, opening) s =>
    if Config.maxBalance < opening then (s, .refuse .range)
    else if (s.purse? card).isSome then (s, .refuse .cardExists)
    else if Config.maxPurses ≤ s.purses.purses.length then (s, .refuse .tableFull)
    else if s.generalRoom = false then (s, .refuse .noRoom)
    else
      ((((s.addPurse (Purse.enrolled card cls opening)).addFloat opening).addCreditTotal opening).appendRecord 0
          (.enrol card opening opening),
        .ok (seqBalance s.journal.nextSeq opening))

/-- ENROL. -/
def execEnrol (body : List Byte) (s : State) : Host.Outcome State Fault Refusal :=
  .next (s.takeCommand (enrolWork body))

/-! ## RETIRE (R16) -/

/-- A record removed from the table (R1). -/
def State.dropPurse (s : State) (card : Nat) : State :=
  s.setPurses { s.purses with purses := s.purses.purses.filter (fun p => !(p.card == card)) }

/-- The work of RETIRE. -/
def retireWork (body : List Byte) : State → State × OfficeAnswer :=
  withBody (cardBody body) fun card => withPurse card fun p s =>
    if p.holdStation.isSome then (s, .refuse .hasHold)
    else if s.generalRoom = false then (s, .refuse .noRoom)
    else
      (((s.dropPurse card).addFloat (-p.balance)).appendRecord 0 (.retire card (-p.balance) 0),
        .ok (seqBalance s.journal.nextSeq p.balance))

/-- RETIRE. -/
def execRetire (body : List Byte) (s : State) : Host.Outcome State Fault Refusal :=
  .next (s.takeCommand (retireWork body))

/-! ## BLOCK and UNBLOCK (R17, R18, R80) -/

/-- The state field of a purse written (R4). -/
def State.setPurseState (s : State) (card : Nat) (st : PurseState) : State :=
  s.modifyPurse card (fun p => { p with state := st })

/-- The body of a BLOCK reply (R17, R181). -/
def blockReply (station granted : Nat) : List Byte := [BitVec.ofNat 8 station] ++ leBytes 3 granted

/-- BLOCK of a purse: an ACTIVE one becomes BLOCKED and its hold, if any, is released (R17, R80); the last-expired card is not
written. -/
def State.blockPurse (s : State) (p : Purse) : State × OfficeAnswer :=
  if p.state = .blocked then (s, .ok (blockReply 0 0))
  else
    match p.holdStation with
    | none => (s.setPurseState p.card .blocked, .ok (blockReply 0 0))
    | some st => ((s.setPurseState p.card .blocked).removeHold p.card st, .ok (blockReply st (s.heldAmount p)))

/-- The work of BLOCK. -/
def blockWork (body : List Byte) : State → State × OfficeAnswer :=
  withBody (cardBody body) fun card => withPurse card fun p s => s.blockPurse p

/-- BLOCK. -/
def execBlock (body : List Byte) (s : State) : Host.Outcome State Fault Refusal :=
  .next (s.takeCommand (blockWork body))

/-- The work of UNBLOCK. -/
def unblockWork (body : List Byte) : State → State × OfficeAnswer :=
  withBody (cardBody body) fun card => withPurse card fun p s => (s.setPurseState p.card .active, .ok [])

/-- UNBLOCK. -/
def execUnblock (body : List Byte) (s : State) : Host.Outcome State Fault Refusal :=
  .next (s.takeCommand (unblockWork body))

/-! ## RECLASS and ADJUST (R19, R20) -/

/-- The work of RECLASS. -/
def reclassWork (body : List Byte) : State → State × OfficeAnswer :=
  withBody (reclassBody body) fun (card, cls) => withPurse card fun p s =>
    (s.modifyPurse p.card (fun q => { q with cls := cls }), .ok [])

/-- RECLASS. -/
def execReclass (body : List Byte) (s : State) : Host.Outcome State Fault Refusal :=
  .next (s.takeCommand (reclassWork body))

/-- A balance lies in the range of R3. -/
def balanceInRange (b : Int) : Bool := decide (Config.minBalance ≤ b) && decide (b ≤ Config.maxBalance)

/-- The work of ADJUST. -/
def adjustWork (body : List Byte) : State → State × OfficeAnswer :=
  withBody (adjustBody body) fun (card, amount) s =>
    if amount = 0 ∨ amount < -999999 ∨ 999999 < amount then (s, .refuse .range)
    else
      withPurse card (fun p s =>
        if balanceInRange (p.balance + amount) = false then (s, .refuse .range)
        else if s.generalRoom = false then (s, .refuse .noRoom)
        else
          (((s.modifyPurse card (fun q => { q with balance := q.balance + amount })).addFloat amount).appendRecord 0
              (.adjust card amount (p.balance + amount)),
            .ok (seqBalance s.journal.nextSeq (p.balance + amount)))) s

/-- ADJUST. -/
def execAdjust (body : List Byte) (s : State) : Host.Outcome State Fault Refusal :=
  .next (s.takeCommand (adjustWork body))

/-! ## PURSE_READ and PURSE_NEXT (R21, R22) -/

/-- The answer that returns one record as stored with its held amount (R21). -/
def State.purseAnswer (s : State) (p : Purse) : OfficeAnswer := .ok (p.bytes (s.heldAmount p))

/-- The work of PURSE_READ. -/
def purseReadWork (body : List Byte) : State → State × OfficeAnswer :=
  withBody (cardBody body) fun card => withPurse card fun p s => (s, s.purseAnswer p)

/-- PURSE_READ. -/
def execPurseRead (body : List Byte) (s : State) : Host.Outcome State Fault Refusal :=
  .next (s.takeCommand (purseReadWork body))

/-- The first record, in card number order, whose card is greater than the one given (R22). -/
def State.purseAfter? (s : State) (card : Nat) : Option Purse := s.purses.purses.find? (fun p => decide (card < p.card))

/-- The work of PURSE_NEXT. -/
def purseNextWork (body : List Byte) : State → State × OfficeAnswer :=
  withBody (purseNextBody body) fun card s =>
    match s.purseAfter? card with
    | some p => (s, s.purseAnswer p)
    | none => (s, .refuse .atEnd)

/-- PURSE_NEXT. -/
def execPurseNext (body : List Byte) (s : State) : Host.Outcome State Fault Refusal :=
  .next (s.takeCommand (purseNextWork body))

/-! ## CLASS_SET (R9) -/

/-- Every field of a class record is in its range (R8). -/
def ClassRecord.inRange (c : ClassRecord) : Bool :=
  decide (c.rate ≤ 1000) && decide (c.cap ≤ 50000) && decide (-20000 ≤ c.floor) && decide (c.floor ≤ 0)
    && decide (c.dayLimit ≤ 200000) && decide (c.holdCeiling ≤ 99999)

/-- The work of CLASS_SET. -/
def classSetWork (body : List Byte) : State → State × OfficeAnswer :=
  withBody (classSetBody body) fun (cls, rec) s =>
    if rec.inRange then
      (s.setPurses { s.purses with classes := s.purses.classes.set cls rec }, .ok [])
    else (s, .refuse .range)

/-- CLASS_SET. -/
def execClassSet (body : List Byte) (s : State) : Host.Outcome State Fault Refusal :=
  .next (s.takeCommand (classSetWork body))

end Sys2Proof.Machine
end

