-- ==== Sys2Proof/Machine/Starts.lean ====
section
/-! DEFINITION. The starts (R142 to R144): what every block keeps and loses in a warm and in a cold start, and the events of
RESETn, VDD and VBAT. -/

namespace Sys2Proof.Machine

/-! ## A warm start, block by block -/

/-- The purse store keeps everything but the hold stations (R24). -/
def PurseStore.warm (p : PurseStore) : PurseStore :=
  { p with purses := p.purses.map (fun q => { q with holdStation := none }) }

/-- The hold unit keeps the station table (R84). -/
def HoldUnit.warm (h : HoldUnit) : HoldUnit := { HoldUnit.cold with stations := h.stations }

/-- The journal keeps its records and settings (R141). -/
def Journal.warm (j : Journal) : Journal := { j with cursor := j.start, timer := j.reload }

/-- The lane request unit keeps the watch entries but for their latches (R105). -/
def LaneUnit.warm (l : LaneUnit) : LaneUnit :=
  { LaneUnit.cold with watch := mapEntries (fun w => { w with latch := false }) l.watch }

/-- The lane bus port keeps the rate in force (R165). A good frame handed on and not taken yet when the start begins is forgotten
with the rest, here as in a cold start, so that a later outcome for it is discarded: a DESIGN CHOICE (assumption 26). -/
def LanePort.warm (p : LanePort) : LanePort := { LanePort.cold with rate := p.rate }

/-- Engine control keeps the freeze limit and enters RUNNING with the clock valid, UNSET otherwise (R144). -/
def EngineControl.warm (e : EngineControl) (valid : Bool) (cause : StartCause) : EngineControl :=
  { EngineControl.cold with state := if valid then .running else .unset, limit := e.limit, startCause := cause }

/-- The attention unit after a start: no enable, no latched cause, and the level conditions as the journal reports them
(R180, R141). -/
def AttentionUnit.started (j : Journal) : AttentionUnit :=
  { AttentionUnit.cold with
    pending := { CauseFlags.clear with journalHigh := j.high, journalFull := j.full }
    condition := { CauseFlags.clear with journalHigh := j.high, journalFull := j.full } }

/-- Every block's own state in a warm start, before the catch-up decision (R24, R40, R84, R105, R122, R141, R144, R165,
R167). -/
def State.warmBlocks (s : State) (cause : StartCause) : State :=
  { s with
    purses := s.purses.warm, holds := s.holds.warm, credit := CreditUnit.cold, journal := s.journal.warm,
    lane := s.lane.warm, port := s.port.warm, office := OfficePort.started,
    engine := s.engine.warm s.time.valid cause, ticks := TickDue.nothing }

/-- The catch-up DAY_MARK of a warm start (R130). -/
def State.catchUp (s : State) : State :=
  if s.purses.firstDay = s.time.day then s else s.writeDayMark (previousDay s.time.day)

/-- A warm start (R142). -/
def State.warmStart (s : State) (cause : StartCause) : State :=
  let s1 := (s.warmBlocks cause).catchUp
  s1.setAttention (AttentionUnit.started s1.journal)

/-- A cold start: every block at its defaults, the retention marker made valid at its end (R142, R143). -/
def State.coldStart (s : State) : State :=
  { State.reset with
    supply := { s.supply with retentionValid := true }, openChoices := s.openChoices, pending := s.pending }

/-! ## Events -/

/-- RESET_ASSERT: RESETn is low; the blocks take nothing (R142). -/
def execResetAssert (s : State) : Host.Outcome State Fault Refusal :=
  .next (s.setSupply { s.supply with resetLow := true })

/-- RESETn released while VDD is present, after a low of so many nanoseconds: a warm start after at least 2 µs, and after a
shorter low either that or nothing (R142). -/
def State.releaseReset (s : State) (lowNanoseconds : Nat) : State :=
  if Config.resetLowNanoseconds ≤ lowNanoseconds then s.warmStart .reset
  else if Config.shortResetStarts s.openChoices then s.meetOpenChoice.warmStart .reset
  else s.meetOpenChoice

/-- RESET_RELEASE. -/
def execResetRelease (lowNanoseconds : Nat) (s : State) : Host.Outcome State Fault Refusal :=
  .next (if s.supply.resetLow then
    let s1 := s.setSupply { s.supply with resetLow := false }
    if s1.supply.vdd then s1.releaseReset lowNanoseconds else s1
  else s)

/-- POWER_LOSS (R33, R142): only the clock goes on. The retention marker stays as it is, whatever VBAT did while VDD was present: a
DESIGN CHOICE (assumption 31). -/
def execPowerLoss (s : State) : Host.Outcome State Fault Refusal :=
  .next (s.setSupply { s.supply with vdd := false })

/-- RETENTION_LOSS: the marker becomes invalid when VDD is absent, and a fall while VDD is present does not make it so (R143). No level
of VBAT is kept, so that such a fall has no effect at a later loss of VDD either: a DESIGN CHOICE (assumption 31). -/
def execRetentionLoss (s : State) : Host.Outcome State Fault Refusal :=
  .next (if s.supply.vdd then s else s.setSupply { s.supply with retentionValid := false })

/-- POWER_RETURN: a warm start with the marker valid, a cold start otherwise (R143). -/
def execPowerReturn (s : State) : Host.Outcome State Fault Refusal :=
  .next (if s.supply.vdd then s
    else
      let s1 := s.setSupply { s.supply with vdd := true }
      if s.supply.retentionValid then s1.warmStart .power else s1.coldStart)

end Sys2Proof.Machine
end

