-- ==== Sys2Proof/Machine/Stations.lean ====
section
/-! DEFINITION. The office command of the hold unit: STATION_SET (R61, R62). -/

namespace Sys2Proof.Machine

/-- Quota and lifetime are in their ranges (R60, R61). -/
def StationEntry.inRange (e : StationEntry) : Bool :=
  decide (e.quota ≤ 8) && decide (30 ≤ e.lifetime) && decide (e.lifetime ≤ 900)

/-- A station entry written (R61). -/
def State.setStation (s : State) (station : Nat) (e : StationEntry) : State :=
  s.setHolds { s.holds with stations := s.holds.stations.setIfInBounds (stationSlot station) e }

/-- Every hold of the list removed, head first (R61, R65). -/
def State.removeHolds (s : State) : List Hold → State
  | [] => s
  | h :: hs => (s.removeHold h.card h.station).removeHolds hs

/-- The release of every hold of a station with its last-expired card made absent (R61). -/
def State.releaseStation (s : State) (station : Nat) : State :=
  (s.removeHolds (s.queue station)).setLastExpired station none

/-- The work of STATION_SET. -/
def stationSetWork (body : List Byte) : State → State × OfficeAnswer :=
  withBody (stationSetBody body) fun (station, e) s =>
    if e.inRange = false then (s, .refuse .range)
    else if e.kind = .till then (s.setStation station e, .ok [0])
    else
      ((s.setStation station e).releaseStation station, .ok [BitVec.ofNat 8 (s.queue station).length])

/-- STATION_SET. -/
def execStationSet (body : List Byte) (s : State) : Host.Outcome State Fault Refusal :=
  .next (s.takeCommand (stationSetWork body))

end Sys2Proof.Machine
end

