-- ==== Sys2Proof/Machine/Attention.lean ====
section
/-! DEFINITION. The office commands of the attention unit, ATTN_TAKE, ATTN_DONE, ATTN_ENABLE (R178, R179), and WATCH_SET of
the lane request unit (R99). -/

namespace Sys2Proof.Machine

/-! ## Details of the causes (R178, R181) -/

/-- The day and clock minute of a freeze change record as a reply shows them; an empty record shows free values. -/
def changeDay (c : Option FreezeChange) : Nat := (c.map FreezeChange.day).getD Config.emptyChangeDay

/-- The clock minute of a freeze change record as a reply shows it. -/
def changeMinute (c : Option FreezeChange) : Nat := (c.map FreezeChange.minute).getD Config.emptyChangeMinute

/-- The freeze change record as page 5 codes it (R183). -/
def EngineControl.changeBytes (e : EngineControl) : List Byte :=
  [(e.change.map (fun c => c.change.code)).getD 0, (e.change.map (fun c => c.reason.code)).getD 0]
    ++ leBytes 2 (changeDay e.change) ++ leBytes 2 (changeMinute e.change) ++ [BitVec.ofNat 8 e.changeCount]

/-- The blocked-seen record as a reply shows it (R181). -/
def BlockedSeen.bytes (b : BlockedSeen) : List Byte :=
  leBytes 4 b.card ++ [BitVec.ofNat 8 b.station] ++ leBytes 2 b.minute ++ [BitVec.ofNat 8 b.count]

/-- One watch entry of a WATCH_HIT detail (R181). -/
def WatchEntry.detail (w : WatchEntry) : List Byte :=
  leBytes 4 w.card ++ [BitVec.ofNat 8 w.hits, BitVec.ofNat 8 w.lastStation, (w.lastKind.map RequestKind.code).getD 0]

/-- The WATCH_HIT detail: the mask of the latched entries, then those entries in index order (R101, R181). That bits 4
to 7 of the mask are 0 is a DESIGN CHOICE (assumption 28). -/
def watchDetail (ws : List WatchEntry) : List Byte :=
  [BitVec.ofNat 8 ((ws.zipIdx.filter (fun e => e.1.latch)).map (fun e => 2 ^ e.2)).sum]
    ++ (ws.filter WatchEntry.latch).flatMap WatchEntry.detail

/-- The detail of a level cause (R178, R181). -/
def State.levelDetail (s : State) (c : Cause) : List Byte :=
  [boolByte (s.attention.condition.get c)] ++ leBytes 2 s.journal.occupancy ++ leBytes 2 s.journal.highWater

/-- The detail of a cause at the take (R178). -/
def State.causeDetail (s : State) : Cause → List Byte
  | .overdue => s.levelDetail .overdue
  | .journalFull => s.levelDetail .journalFull
  | .journalHigh => s.levelDetail .journalHigh
  | .watchHit => watchDetail s.lane.watch.toList
  | .blockedSeen => s.lane.blockedSeen.bytes
  | .freezeChange => s.engine.changeBytes
  | .laneBusFault => [s.port.faults.byte]
  | .rollover => leBytes 2 s.time.day

/-! ## The take -/

/-- A take of a level cause: acknowledged while its condition holds, cleared otherwise (R176). -/
def AttentionUnit.takeLevel (a : AttentionUnit) (c : Cause) : AttentionUnit :=
  if a.condition.get c then { a with acknowledged := a.acknowledged.set c true }
  else { a with pending := a.pending.set c false }

/-- A take of a latched cause clears its pending flag (R177). -/
def AttentionUnit.takeLatched (a : AttentionUnit) (c : Cause) : AttentionUnit :=
  { a with pending := a.pending.set c false }

/-- The attention unit's part of the take of a cause (R176, R177). -/
def AttentionUnit.take (a : AttentionUnit) : Cause → AttentionUnit
  | .overdue => a.takeLevel .overdue
  | .journalFull => a.takeLevel .journalFull
  | .journalHigh => a.takeLevel .journalHigh
  | .watchHit => a.takeLatched .watchHit
  | .blockedSeen => a.takeLatched .blockedSeen
  | .freezeChange => a.takeLatched .freezeChange
  | .laneBusFault => a.takeLatched .laneBusFault
  | .rollover => a.takeLatched .rollover

/-- The raiser's part of the take (R101, R103, R151, R163). -/
def State.raiserTake (s : State) : Cause → State
  | .watchHit => s.setLane { s.lane with watch := mapEntries (fun w => { w with latch := false }) s.lane.watch }
  | .blockedSeen => s.setLane { s.lane with blockedSeen := { s.lane.blockedSeen with count := 0 } }
  | .freezeChange => s.setEngine { s.engine with changeCount := 0 }
  | .laneBusFault => s.setPort { s.port with faults := FaultKinds.empty }
  | .rollover => s
  | .overdue => s
  | .journalFull => s
  | .journalHigh => s

/-- The take of a cause: cleared as its type gives, the taken state set (R178). -/
def State.takeCause (s : State) (c : Cause) : State :=
  (s.raiserTake c).setAttention { s.attention.take c with taken := true }

/-- The work of ATTN_TAKE. -/
def attnTakeWork (body : List Byte) : State → State × OfficeAnswer :=
  withBody (emptyBody body) fun _ s =>
    match s.attention.highest? with
    | none => (s, .ok [255])
    | some c => (s.takeCause c, .ok ([BitVec.ofNat 8 c.number] ++ s.causeDetail c))

/-- ATTN_TAKE. -/
def execAttnTake (body : List Byte) (s : State) : Host.Outcome State Fault Refusal :=
  .next (s.takeCommand (attnTakeWork body))

/-- The work of ATTN_DONE (R179). -/
def attnDoneWork (body : List Byte) : State → State × OfficeAnswer :=
  withBody (emptyBody body) fun _ s => (s.setAttention { s.attention with taken := false }, .ok [])

/-- ATTN_DONE. -/
def execAttnDone (body : List Byte) (s : State) : Host.Outcome State Fault Refusal :=
  .next (s.takeCommand (attnDoneWork body))

/-- The work of ATTN_ENABLE (R179). -/
def attnEnableWork (body : List Byte) : State → State × OfficeAnswer :=
  withBody (attnEnableBody body) fun enables s =>
    (s.setAttention { s.attention with enabled := enables }, .ok [enables.byte])

/-- ATTN_ENABLE. -/
def execAttnEnable (body : List Byte) (s : State) : Host.Outcome State Fault Refusal :=
  .next (s.takeCommand (attnEnableWork body))

/-! ## WATCH_SET (R99) -/

/-- The work of WATCH_SET. -/
def watchSetWork (body : List Byte) : State → State × OfficeAnswer :=
  withBody (watchSetBody body) fun (entry, card) s =>
    (s.setLane { s.lane with watch := s.lane.watch.setIfInBounds entry { WatchEntry.unused with card := card } }, .ok [])

/-- WATCH_SET. -/
def execWatchSet (body : List Byte) (s : State) : Host.Outcome State Fault Refusal :=
  .next (s.takeCommand (watchSetWork body))

end Sys2Proof.Machine
end

