-- ==== Sys2Proof/Machine/LanePort.lean ====
section
/-! DEFINITION. The lane bus port: frames, refusals, turnaround, replies, faults and the restart mark (R155 to R165), and its
commands LANE_RATE_SET and STATUS_CLEAR. -/

namespace Sys2Proof.Machine

/-! ## Shared operations -/

/-- The five fault kinds (R163). -/
inductive LaneFault where
  | parity
  | badCheck
  | timeout
  | unknownStation
  | replyLoss
  deriving DecidableEq, Repr

/-- The counter of a fault kind counts one more (R163). -/
def LaneCounters.count (c : LaneCounters) : LaneFault → LaneCounters
  | .parity => { c with parityRefusals := bump Config.maxCounter c.parityRefusals }
  | .badCheck => { c with badChecks := bump Config.maxCounter c.badChecks }
  | .timeout => { c with timeouts := bump Config.maxCounter c.timeouts }
  | .unknownStation => { c with unknownStations := bump Config.maxCounter c.unknownStations }
  | .replyLoss => { c with replyLosses := bump Config.maxCounter c.replyLosses }

/-- A fault kind added to the set (R163). -/
def FaultKinds.add (f : FaultKinds) : LaneFault → FaultKinds
  | .parity => { f with parity := true }
  | .badCheck => { f with badCheck := true }
  | .timeout => { f with timeout := true }
  | .unknownStation => { f with unknownStation := true }
  | .replyLoss => { f with replyLoss := true }

/-- A fault event: counted, added to the set, and LANE_BUS_FAULT latched (R163). -/
def State.laneFault (s : State) (f : LaneFault) : State :=
  (s.setPort { s.port with counters := s.port.counters.count f, faults := s.port.faults.add f }).raiseCause .laneBusFault

/-- The receiver written. -/
def State.setReceiver (s : State) (r : LaneReceiver) : State := s.setPort { s.port with receiver := r }

/-- Entry into IDLE, where a pending rate takes effect and is cleared (R156). -/
def LanePort.enterIdle (p : LanePort) : LanePort :=
  { p with receiver := .idle, rate := p.pendingRate.getD p.rate, pendingRate := none }

/-- Entry into IDLE (R156). -/
def State.enterIdle (s : State) : State := s.setPort s.port.enterIdle

/-- A frame is in reception, or can begin: a frame that ends with the receiver in IDLE also began in the command
(assumption 10). -/
def LaneReceiver.hears : LaneReceiver → Bool
  | .idle => true
  | .receiving => true
  | .mark => false
  | .broken _ => false
  | .turnaround _ => false
  | .replying _ => false

/-- A frame abandoned for a length character above 12 (R158). -/
def State.abandonLaneLength (s : State) : State := (s.laneFault .badCheck).setReceiver (.broken false)

/-! ## Frame events -/

/-- LANE_FRAME_START: a valid start bit in IDLE (R157). -/
def execLaneFrameStart (s : State) : Host.Outcome State Fault Refusal :=
  .next (if s.supplied = true ∧ s.port.receiver = .idle then s.setReceiver .receiving else s)

/-- The judgement of a whole frame (R160). -/
def State.judgeLaneFrame (s : State) (address kind : Byte) (body : List Byte) (check : Byte) : State :=
  if Config.maxLaneBody < body.length then s.abandonLaneLength
  else if laneSumGood address kind body check = false then (s.laneFault .badCheck).enterIdle
  else if (s.station address.toNat).kind = .none then (s.laneFault .unknownStation).enterIdle
  else
    s.setPort { s.port with
      counters := { s.port.counters with goodFrames := bump Config.maxCounter s.port.counters.goodFrames }
      handed := s.port.handed ++ [{ station := address.toNat, kind := kind, body := body }]
      receiver := .turnaround .awaited }

/-- LANE_FRAME_END. -/
def execLaneFrameEnd (address kind : Byte) (body : List Byte) (check : Byte) (s : State) :
    Host.Outcome State Fault Refusal :=
  .next (if s.supplied = true ∧ s.port.receiver.hears = true then s.judgeLaneFrame address kind body check else s)

/-- PARITY_REFUSAL: the line is pulled low for the first guard bit (`State.lbusBits` of the state it leaves), the refusal is
counted, the frame is abandoned (R159). -/
def execParityRefusal (s : State) : Host.Outcome State Fault Refusal :=
  .next (if s.supplied = true ∧ s.port.receiver.hears = true then (s.laneFault .parity).setReceiver (.broken true) else s)

/-- LANE_LENGTH_ABANDON (R158). -/
def execLaneLengthAbandon (s : State) : Host.Outcome State Fault Refusal :=
  .next (if s.supplied = true ∧ s.port.receiver.hears = true then s.abandonLaneLength else s)

/-- LANE_FRAME_TIMEOUT (R158). -/
def execLaneFrameTimeout (s : State) : Host.Outcome State Fault Refusal :=
  .next (if s.supplied = true ∧ s.port.receiver = .receiving then (s.laneFault .timeout).enterIdle else s)

/-- BROKEN (R157), with or without a refusal signal before it. -/
def LaneReceiver.isBroken : LaneReceiver → Bool
  | .broken _ => true
  | .mark => false
  | .idle => false
  | .receiving => false
  | .turnaround _ => false
  | .replying _ => false

/-- BROKEN_WAIT_END (R157). -/
def execBrokenWaitEnd (s : State) : Host.Outcome State Fault Refusal :=
  .next (if s.supplied = true ∧ s.port.receiver.isBroken = true then s.enterIdle else s)

/-! ## Turnaround and reply -/

/-- The end of the turnaround (R161). It does not end while the outcome is awaited. That the row is the moment at which both conditions
hold, so that one which comes before the outcome changes nothing and the passing of the 12 bit times is not kept, is a DESIGN CHOICE
(assumption 34). -/
def State.endTurnaround (s : State) : State :=
  match s.port.receiver with
  | .turnaround (.reply r) => s.setReceiver (.replying r)
  | .turnaround .noReply => s.enterIdle
  | _ => s

/-- TURNAROUND_END. -/
def execTurnaroundEnd (s : State) : Host.Outcome State Fault Refusal :=
  .next (if s.supplied then s.endTurnaround else s)

/-- A start bit in TURNAROUND (R161): a held reply is abandoned and counted as a loss; where none is held, none is. -/
def State.preemptReply (s : State) : State :=
  match s.port.receiver with
  | .turnaround (.reply _) => (s.laneFault .replyLoss).setReceiver .receiving
  | .turnaround _ => s.setReceiver .receiving
  | _ => s

/-- REPLY_PREEMPT. -/
def execReplyPreempt (s : State) : Host.Outcome State Fault Refusal :=
  .next (if s.supplied then s.preemptReply else s)

/-- A collision while a reply is sent (R162). -/
def State.collideReply (s : State) : State :=
  match s.port.receiver with
  | .replying _ => (s.laneFault .replyLoss).setReceiver (.broken false)
  | _ => s

/-- REPLY_COLLISION. -/
def execReplyCollision (s : State) : Host.Outcome State Fault Refusal :=
  .next (if s.supplied then s.collideReply else s)

/-- The delivered flag of a station's record set; an empty record stays empty (R96, R98). -/
def State.setDelivered (s : State) (station : Nat) : State :=
  s.setLastReply station ((s.lastReply station).map (fun r => { r with delivered := true }))

/-- A reply sent whole (R162). -/
def State.completeReply (s : State) : State :=
  match s.port.receiver with
  | .replying r => (s.setDelivered r.station).enterIdle
  | _ => s

/-- REPLY_COMPLETE. -/
def execReplyComplete (s : State) : Host.Outcome State Fault Refusal :=
  .next (if s.supplied then s.completeReply else s)

/-- RESTART_MARK_END (R165). -/
def execRestartMarkEnd (s : State) : Host.Outcome State Fault Refusal :=
  .next (if s.supplied = true ∧ s.port.receiver = .mark then s.enterIdle else s)

/-! ## Commands -/

/-- A lane rate stored (R156): at once in IDLE, as the pending rate otherwise; the rate in force clears the pending rate. -/
def LanePort.takeRate (p : LanePort) (rate : Nat) : LanePort :=
  if p.receiver = .idle ∨ rate = p.rate then { p with rate := rate, pendingRate := none }
  else { p with pendingRate := some rate }

/-- The work of LANE_RATE_SET (R156). -/
def laneRateSetWork (body : List Byte) : State → State × OfficeAnswer :=
  withBody (laneRateBody body) fun code s =>
    match rateOfCode code with
    | none => (s, .refuse .range)
    | some rate => (s.setPort (s.port.takeRate rate), .ok [])

/-- LANE_RATE_SET. -/
def execLaneRateSet (body : List Byte) (s : State) : Host.Outcome State Fault Refusal :=
  .next (s.takeCommand (laneRateSetWork body))

/-- The six counters as 12 bytes (R183). -/
def LaneCounters.bytes (c : LaneCounters) : List Byte :=
  leBytes 2 c.goodFrames ++ leBytes 2 c.parityRefusals ++ leBytes 2 c.badChecks ++ leBytes 2 c.timeouts
    ++ leBytes 2 c.unknownStations ++ leBytes 2 c.replyLosses

/-- The work of STATUS_CLEAR (R164). -/
def statusClearWork (body : List Byte) : State → State × OfficeAnswer :=
  withBody (emptyBody body) fun _ s =>
    (s.setPort { s.port with counters := LaneCounters.zero }, .ok s.port.counters.bytes)

/-- STATUS_CLEAR. -/
def execStatusClear (body : List Byte) (s : State) : Host.Outcome State Fault Refusal :=
  .next (s.takeCommand (statusClearWork body))

end Sys2Proof.Machine
end

