-- ==== Sys2Proof/Machine/Status.lean ====
section
/-! DEFINITION. STATUS: the parts of the eight pages (R164, R183). Reading a page changes no state. -/

namespace Sys2Proof.Machine

/-- Page 0: the purse store (R10). -/
def PurseStore.page (p : PurseStore) : List Byte :=
  leBytesInt 5 p.floatTotal ++ leBytes 2 p.purses.length ++ leBytes 4 p.debitTotal ++ leBytes 4 p.subsidyTotal
    ++ leBytes 4 p.creditTotal ++ leBytes 2 p.firstDay

/-- Page 1: the time unit (R25). That bits 2 to 7 of its flags byte are 0 is a DESIGN CHOICE (assumption 28). -/
def TimeUnit.page (t : TimeUnit) : List Byte :=
  leBytes 2 t.day ++ leBytes 2 t.minute ++ [BitVec.ofNat 8 t.second]
    ++ [flagByte t.valid t.rolloverFreeze false false false false false false] ++ leBytes 2 t.rolloverMinute
    ++ leBytes 2 t.dayMinute ++ [windowByte t.windowIndex] ++ t.windows.toList.flatMap Window.bytes

/-- One station on page 2 (R67). -/
def State.stationBytes (s : State) (station : Nat) : List Byte :=
  [(s.station station).kind.code, BitVec.ofNat 8 (s.station station).quota] ++ leBytes 2 (s.station station).lifetime
    ++ [BitVec.ofNat 8 (s.queue station).length] ++ leBytes 4 ((s.lastExpired station).getD 0)

/-- The stations of a part of page 2: 3k + 1 to 3k + 3, up to 14 (R183). -/
def partStations (part : Nat) : List Nat := [3 * part + 1, 3 * part + 2, 3 * part + 3].filter (fun st => decide (st ≤ 14))

/-- Page 2: the hold unit (R67). -/
def State.holdPage (s : State) (part : Nat) : List Byte :=
  [BitVec.ofNat 8 s.poolCount] ++ (partStations part).flatMap s.stationBytes

/-- One watch entry on page 3 (R183). -/
def WatchEntry.pageBytes (w : WatchEntry) : List Byte :=
  leBytes 4 w.card ++ [latchKindByte w.latch w.lastKind, BitVec.ofNat 8 w.hits, BitVec.ofNat 8 w.lastStation]

/-- Page 3: the lane request unit (R101, R103). -/
def LaneUnit.page (l : LaneUnit) (part : Nat) : List Byte :=
  if part = 0 then l.watch.toList.flatMap WatchEntry.pageBytes else l.blockedSeen.bytes

/-- Page 4: the settlement journal (R123). -/
def Journal.page (j : Journal) : List Byte :=
  leBytes 2 j.occupancy ++ leBytes 4 j.oldest ++ leBytes 4 j.newest ++ leBytes 4 j.nextSeq ++ leBytes 4 j.cursor
    ++ leBytes 2 j.readCount ++ leBytes 2 j.highWater ++ [BitVec.ofNat 8 j.reload, BitVec.ofNat 8 j.timer, boolByte j.overdue]

/-- Page 5: engine control (R145). -/
def EngineControl.page (e : EngineControl) : List Byte :=
  [e.state.code, freezeReasonCode e.reason, BitVec.ofNat 8 e.limit] ++ leBytes 2 e.timer ++ e.changeBytes
    ++ [e.startCause.code]

/-- Page 6: the lane bus port (R164). -/
def LanePort.page (p : LanePort) : List Byte :=
  p.counters.bytes ++ leBytes 2 (rateCode p.rate) ++ leBytes 2 (rateCode (p.pendingRate.getD 0))
    ++ [p.receiver.code, p.faults.byte]

/-- The rate 8,000,000 / T rounded to a whole bit/s (R175); a tie is rounded by a free value. -/
def roundedRate (t : Nat) : Nat :=
  let q := 8000000 / t
  let r := 8000000 % t
  if 2 * r < t then q
  else if t < 2 * r then q + 1
  else if Config.rateTieRoundsUp then q + 1 else q

/-- The office link half of page 7 (R175). The STATUS that reads it finds the receiver in SEEKING, a DESIGN CHOICE made in
`State.takeCommand` (assumption 27). -/
def OfficePort.page (o : OfficePort) : List Byte :=
  match o.bitTime with
  | none => [0] ++ leBytes 2 0 ++ leBytes 3 0 ++ [o.receiver.code, o.flags.byte]
  | some t => [1] ++ leBytes 2 t ++ leBytes 3 (roundedRate t) ++ [o.receiver.code, o.flags.byte]

/-- The attention half of page 7 (R175). The bits of causes that have no condition or no enable are sent as 0, a
DESIGN CHOICE (assumption 28). -/
def AttentionUnit.page (a : AttentionUnit) : List Byte :=
  [a.pending.byte, a.acknowledged.byte, a.condition.byte, a.enabled.byte, boolByte a.taken, boolByte a.asserted]

/-- A part of a page (R164, R183). -/
def State.statusPage (s : State) (page part : Nat) : List Byte :=
  match page with
  | 0 => s.purses.page
  | 1 => s.time.page
  | 2 => s.holdPage part
  | 3 => s.lane.page part
  | 4 => s.journal.page
  | 5 => s.engine.page
  | 6 => s.port.page
  | _ => s.office.page ++ s.attention.page

/-- The work of STATUS (R164). -/
def statusWork (body : List Byte) : State → State × OfficeAnswer :=
  withBody (statusBody body) fun (page, part) s => (s, .ok (s.statusPage page part))

/-- STATUS. -/
def execStatus (body : List Byte) (s : State) : Host.Outcome State Fault Refusal :=
  .next (s.takeCommand (statusWork body))

end Sys2Proof.Machine
end

