-- ==== Sys2Proof/Machine/TimeCommands.lean ====
section
/-! DEFINITION. The office commands of the time unit: CLOCK_SET, ROLLOVER_SET, WINDOW_SET (R28, R34, R37). -/

namespace Sys2Proof.Machine

/-- The work of CLOCK_SET (R28). It is no rollover and issues no tick. -/
def clockSetWork (body : List Byte) : State → State × OfficeAnswer :=
  withBody (clockSetBody body) fun (day, minute, second) s =>
    if s.engine.state = .running then (s, .refuse .wrongState)
    else (s.setTime { s.time with day := day, minute := minute, second := second, valid := true }, .ok [])

/-- CLOCK_SET. -/
def execClockSet (body : List Byte) (s : State) : Host.Outcome State Fault Refusal :=
  .next (s.takeCommand (clockSetWork body))

/-- The work of ROLLOVER_SET (R34): the stored minute is accepted in every engine state, another one only while the engine is
not RUNNING. -/
def rolloverSetWork (body : List Byte) : State → State × OfficeAnswer :=
  withBody (rolloverSetBody body) fun (minute, flag) s =>
    if minute ≠ s.time.rolloverMinute ∧ s.engine.state = .running then (s, .refuse .wrongState)
    else (s.setTime { s.time with rolloverMinute := minute, rolloverFreeze := flag }, .ok [])

/-- ROLLOVER_SET. -/
def execRolloverSet (body : List Byte) (s : State) : Host.Outcome State Fault Refusal :=
  .next (s.takeCommand (rolloverSetWork body))

/-- The work of WINDOW_SET (R37). -/
def windowSetWork (body : List Byte) : State → State × OfficeAnswer :=
  withBody (windowSetBody body) fun windows s =>
    if s.engine.state = .running then (s, .refuse .wrongState)
    else if windowTableGood windows = false then (s, .refuse .badTable)
    else (s.setTime { s.time with windows := windows }, .ok [])

/-- WINDOW_SET. -/
def execWindowSet (body : List Byte) (s : State) : Host.Outcome State Fault Refusal :=
  .next (s.takeCommand (windowSetWork body))

end Sys2Proof.Machine
end

