-- ==== Sys2Proof/Machine/OfficePort.lean ====
section
/-! DEFINITION. The events of the office link port: breaks and rating (R168, R169), frames (R170 to R172), the ends of replies
and breaks (R152, R153, R173, R174), and the command catalogue (section 10.3). -/

namespace Sys2Proof.Machine

/-! ## Breaks -/

/-- The bit time a break gives: a tenth of its periods, rounded to the nearest, a half rounded up (R168). -/
def bitTimeOf (periods : Nat) : Nat := (periods + 5) / 10

/-- The bit times that are accepted (R168). -/
def bitTimeGood (t : Nat) : Bool := decide (69 ≤ t) && decide (t ≤ 1667)

/-- A low of so many periods is a break (R168). -/
def OfficePort.isBreak (o : OfficePort) (periods : Nat) : Bool :=
  match o.bitTime with
  | none => decide (685 ≤ periods)
  | some t => decide (10 * t ≤ periods)

/-- The flags a reply under way carries (R169, R173). -/
def OfficePort.carriedFlags (o : OfficePort) : LinkFlags :=
  match o.transmit with
  | .reply r => r.flags
  | .answeringBreak => LinkFlags.clear
  | .idle => LinkFlags.clear
  | .startBreak _ => LinkFlags.clear

/-- What OTX carries from the rising edge of an accepted break on (R169): the answering break, at once or, a DESIGN CHOICE
(assumption 11), after a start break that is still being sent (R153). -/
def OfficeTransmit.answered : OfficeTransmit → OfficeTransmit
  | .startBreak _ => .startBreak true
  | .idle => .answeringBreak
  | .reply _ => .answeringBreak
  | .answeringBreak => .answeringBreak

/-- The rising edge of a break (R169): accepted, the link is rated, a reply under way is abandoned with its flags set again
and the answering break is sent; refused, BAD_RATE is set. A frame in reception has been abandoned (R168). -/
def OfficePort.takeBreak (o : OfficePort) (periods : Nat) : OfficePort :=
  if bitTimeGood (bitTimeOf periods) then
    { o with
      bitTime := some (bitTimeOf periods), receiver := .seeking, transmit := o.transmit.answered,
      flags := o.flags.union o.carriedFlags }
  else { o with receiver := .seeking, flags := { o.flags with badRate := true } }

/-- BREAK_RISING_EDGE. Every low on ORX is measured, also one that ends in a start break (R168). A low that is no break is part
of a character or ignored. -/
def execBreakRisingEdge (periods : Nat) (s : State) : Host.Outcome State Fault Refusal :=
  .next (if s.supplied = true ∧ s.office.isBreak periods = true then s.setOffice (s.office.takeBreak periods) else s)

/-- RATED_BREAK_DETECT (R168). -/
def execRatedBreakDetect (s : State) : Host.Outcome State Fault Refusal :=
  .next (if s.supplied = true ∧ s.office.rated = true then s.officeSeek else s)

/-! ## Ends of replies and breaks -/

/-- The reply period turns off, or the pending warm start begins (R152, R173). -/
def State.endReplyPeriod (s : State) : State :=
  if s.office.restartPending then s.warmStart .restart else s.setOffice { s.office with transmit := .idle }

/-- A reply is being sent. -/
def OfficeTransmit.isReply : OfficeTransmit → Bool
  | .reply _ => true
  | .answeringBreak => false
  | .idle => false
  | .startBreak _ => false

/-- OFFICE_REPLY_END (R173). -/
def execOfficeReplyEnd (s : State) : Host.Outcome State Fault Refusal :=
  .next (if s.supplied = true ∧ s.office.transmit.isReply = true then s.endReplyPeriod else s)

/-- ANSWERING_BREAK_END (R152, R174). -/
def execAnsweringBreakEnd (s : State) : Host.Outcome State Fault Refusal :=
  .next (if s.supplied = true ∧ s.office.transmit = .answeringBreak then s.endReplyPeriod else s)

/-- RESTART_WARM_START: the end of the RESTART reply, or of the answering break that abandoned it (R152). -/
def execRestartWarmStart (s : State) : Host.Outcome State Fault Refusal :=
  .next (if s.supplied = true ∧ s.office.replyPeriod = true ∧ s.office.restartPending = true then s.warmStart .restart else s)

/-- The end of a start break (R153): OTX goes high, and an answering break still to come begins (R169; assumption 11). -/
def OfficeTransmit.startBreakEnded : OfficeTransmit → OfficeTransmit
  | .startBreak answer => if answer then .answeringBreak else .idle
  | .idle => .idle
  | .reply r => .reply r
  | .answeringBreak => .answeringBreak

/-- START_BREAK_END (R153). -/
def execStartBreakEnd (s : State) : Host.Outcome State Fault Refusal :=
  .next (if s.supplied then s.setOffice { s.office with transmit := s.office.transmit.startBreakEnded } else s)

/-! ## Frames -/

/-- OFFICE_FRAME_START (R171). -/
def execOfficeFrameStart (s : State) : Host.Outcome State Fault Refusal :=
  .next (if s.officeReceives = true ∧ s.office.receiver = .seeking then
    s.setOffice { s.office with receiver := .receiving } else s)

/-- A frame abandoned with BAD_CHECK set and RESYNC entered (R170, R171). -/
def State.abandonOfficeFrame (s : State) : State :=
  s.setOffice { s.office with receiver := .resync, flags := { s.office.flags with badCheck := true } }

/-- FRAMING_ERROR (R170): the low at a stop bit has ended before 10 bit times. That the row comes at the end of such a low, and not at
the sample, is a DESIGN CHOICE (assumption 33). -/
def execFramingError (s : State) : Host.Outcome State Fault Refusal :=
  .next (if s.officeReceives then s.abandonOfficeFrame else s)

/-- OFFICE_LENGTH_ABANDON (R171). -/
def execOfficeLengthAbandon (s : State) : Host.Outcome State Fault Refusal :=
  .next (if s.officeReceives then s.abandonOfficeFrame else s)

/-- OFFICE_FRAME_TIMEOUT (R171). -/
def execOfficeFrameTimeout (s : State) : Host.Outcome State Fault Refusal :=
  .next (if s.officeReceives = true ∧ s.office.receiver = .receiving then
    s.setOffice { s.office with receiver := .seeking, flags := { s.office.flags with timeout := true } } else s)

/-- RESYNC_END (R170). -/
def execResyncEnd (s : State) : Host.Outcome State Fault Refusal :=
  .next (if s.supplied = true ∧ s.office.receiver = .resync then s.officeSeek else s)

/-- The work of the command a kind character names (section 10.3, R181); a kind outside the catalogue is answered BAD_REQUEST
(R172). -/
def commandWork (kind : Byte) (body : List Byte) : State → State × OfficeAnswer :=
  match kind.toNat with
  | 1 => enrolWork body
  | 2 => retireWork body
  | 3 => blockWork body
  | 4 => unblockWork body
  | 5 => reclassWork body
  | 6 => adjustWork body
  | 7 => creditWork body
  | 8 => purseReadWork body
  | 9 => purseNextWork body
  | 10 => classSetWork body
  | 11 => windowSetWork body
  | 12 => rolloverSetWork body
  | 13 => stationSetWork body
  | 14 => journalSetWork body
  | 15 => laneRateSetWork body
  | 16 => clockSetWork body
  | 17 => goWork body
  | 18 => freezeWork body
  | 19 => thawWork body
  | 20 => restartWork body
  | 21 => batchOpenWork body
  | 22 => batchItemWork body
  | 23 => batchCloseWork body
  | 24 => batchAbortWork body
  | 25 => batchResultWork body
  | 26 => jnlNextWork body
  | 27 => jnlConfirmWork body
  | 28 => jnlRewindWork body
  | 29 => watchSetWork body
  | 30 => attnTakeWork body
  | 31 => attnDoneWork body
  | 32 => attnEnableWork body
  | 33 => statusWork body
  | 34 => statusClearWork body
  | _ => fun s => (s, .refuse .badRequest)

/-- The judgement of a whole office frame (R171). -/
def State.judgeOfficeFrame (s : State) (kind : Byte) (body : List Byte) (check : Byte) : State :=
  if Config.maxOfficeBody < body.length then s.abandonOfficeFrame
  else if officeSumGood kind body check = false then
    s.officeSeek.setOffice { s.officeSeek.office with flags := { s.office.flags with badCheck := true } }
  else s.takeCommand (commandWork kind body)

/-- OFFICE_FRAME_END. -/
def execOfficeFrameEnd (kind : Byte) (body : List Byte) (check : Byte) (s : State) : Host.Outcome State Fault Refusal :=
  .next (if s.officeReceives then s.judgeOfficeFrame kind body check else s)

end Sys2Proof.Machine
end

