-- ==== Sys2Proof/Machine/Ticks.lean ====
section
/-! DEFINITION. The seconds tick and the minute tick: the clock (R26), rollover (R30, R31), and what the hold unit (R77, R78),
engine control (R149) and the journal (R137, R138) do with a tick. -/

namespace Sys2Proof.Machine

/-! ## The clock -/

/-- The clock one second on (R26). -/
def TimeUnit.advance (t : TimeUnit) : TimeUnit :=
  if t.second < 59 then { t with second := t.second + 1 }
  else { t with second := 0, minute := if t.minute < 1439 then t.minute + 1 else 0 }

/-- The count that issues a minute tick too (R26). -/
def TimeUnit.minuteTickNext (t : TimeUnit) : Bool := decide (59 ≤ t.second)

/-- The minute tick that makes the clock minute equal to the rollover minute with the clock valid (R30). -/
def TimeUnit.rolloverNext (t : TimeUnit) : Bool :=
  t.minuteTickNext && t.valid && t.advance.minute == t.rolloverMinute

/-! ## The hold unit -/

/-- The holds that reach 0 at this tick, in queue order (R78). -/
def State.expiring (s : State) : List Hold := s.holds.holds.filter (fun h => decide (h.remaining ≤ 1))

/-- A hold with one second less. -/
def Hold.older (h : Hold) : Hold := { h with remaining := h.remaining - 1 }

/-- One expiry (R78): a removal that sets the station's last-expired card. -/
def State.expireHold (s : State) (h : Hold) : State := (s.removeHold h.card h.station).setLastExpired h.station (some h.card)

/-- The expiries of one tick, in queue order, so that the one nearest the tail of a queue stays last-expired (R78). -/
def State.expireHolds (s : State) : List Hold → State
  | [] => s
  | h :: hs => (s.expireHold h).expireHolds hs

/-- Every open hold one second older (R77). -/
def State.countHolds (s : State) : State := s.setHolds { s.holds with holds := s.holds.holds.map Hold.older }

/-- The hold unit takes the seconds tick (R77 to R79). -/
def State.holdTick (s : State) : State :=
  if s.engine.state = .running then s.countHolds.expireHolds s.expiring else s

/-! ## Engine control -/

/-- The freeze change record written (R151). -/
def State.writeChange (s : State) (e : EngineControl) (change : ChangeKind) (reason : ChangeReason) : State :=
  (s.setEngine { e with
    change := some { change := change, reason := reason, day := s.time.day, minute := s.time.minute }
    changeCount := bump Config.maxByteCount e.changeCount }).raiseCause .freezeChange

/-- Engine control takes the seconds tick (R149). -/
def State.engineTick (s : State) : State :=
  if s.engine.state = .frozen then
    if s.engine.timer = 1 then s.writeChange s.engine.run .exit .limit
    else s.setEngine { s.engine with timer := s.engine.timer - 1 }
  else s

/-! ## The journal -/

/-- The journal takes the minute tick (R137, R138). -/
def State.journalTick (s : State) : State :=
  if s.journal.high = true ∧ s.engine.state = .running ∧ 0 < s.journal.timer then
    (s.setJournal { s.journal with timer := s.journal.timer - 1 }).reportBegin .overdue (decide (s.journal.timer = 1))
  else s

/-! ## Rollover -/

/-- Engine control enters FROZEN at rollover (R150). -/
def EngineControl.rolloverFreeze (e : EngineControl) : EngineControl :=
  { e with state := .frozen, reason := some .rollover, timer := e.limit * 60 }

/-- The freeze that rollover asks for, of a RUNNING engine with the rollover-freeze flag on (R31, R150). -/
def State.freezeAtRollover (s : State) : State :=
  if s.engine.state = .running ∧ s.time.rolloverFreeze = true then
    s.writeChange s.engine.rolloverFreeze .entry .rollover
  else s

/-- The DAY_MARK that rollover asks for, of an engine that is not UNSET (R31, R128). -/
def State.markAtRollover (s : State) (endedDay : Nat) : State :=
  if s.engine.state = .unset then s else s.writeDayMark endedDay

/-- The day number increments (R30). -/
def State.advanceDay (s : State) : State := s.setTime { s.time with day := nextDay s.time.day }

/-- The rollover event (R30, R31). -/
def State.rollover (s : State) : State :=
  ((s.advanceDay.markAtRollover s.time.day).raiseCause .rollover).freezeAtRollover

/-! ## Taking a tick -/

/-- The hold unit takes the seconds tick due to it, if one is. -/
def State.takeHoldTick (s : State) : State :=
  if s.ticks.hold then (s.setTicks { s.ticks with hold := false }).holdTick else s

/-- Engine control takes the seconds tick due to it, if one is. -/
def State.takeEngineTick (s : State) : State :=
  if s.ticks.engine then (s.setTicks { s.ticks with engine := false }).engineTick else s

/-- The journal takes the minute tick due to it, if one is. -/
def State.takeJournalTick (s : State) : State :=
  if s.ticks.journal then (s.setTicks { s.ticks with journal := false }).journalTick else s

/-- The ticks issued earlier and not taken yet (assumption 6). -/
def State.takeDueTicks (s : State) : State := s.takeHoldTick.takeEngineTick.takeJournalTick

/-- One block takes its tick. The flag says that a rollover is still to come in this event. -/
def takeTick (r : State × Bool) : TickTaker → State × Bool
  | .holdUnit => (r.1.takeHoldTick, r.2)
  | .engineControl => (r.1.takeEngineTick, r.2)
  | .journal => (r.1.takeJournalTick, r.2)
  | .rollover => if r.2 then (r.1.rollover, false) else r

/-- The time unit's count (R26): the clock advances and the ticks are issued. -/
def State.issueTicks (s : State) : State :=
  (s.setTime s.time.advance).setTicks { hold := true, engine := true, journal := s.time.minuteTickNext }

/-- A seconds tick while the blocks are supplied: the blocks named take it in the order given, and a rollover not named is
taken last (R26, R30, R31). -/
def State.tickSupplied (s : State) (order : List TickTaker) : State :=
  let s0 := s.takeDueTicks
  let r := order.foldl takeTick (s0.issueTicks, s0.time.rolloverNext)
  if r.2 then r.1.rollover else r.1

/-- A seconds tick on battery or with RESETn low: the clock counts, and a rollover increments the day number and does nothing
more (R33, R40). -/
def State.tickOnBattery (s : State) : State :=
  let s1 := s.setTime s.time.advance
  if s.time.rolloverNext then s1.advanceDay else s1

/-- SECONDS_TICK. -/
def execSecondsTick (order : List TickTaker) (s : State) : Host.Outcome State Fault Refusal :=
  .next (if s.supplied then s.tickSupplied order else s.tickOnBattery)

/-- HOLD_EXPIRY: the hold unit's event of a tick it has not taken yet (R77, R78). -/
def execHoldExpiry (s : State) : Host.Outcome State Fault Refusal :=
  .next (if s.supplied then s.takeHoldTick else s)

/-- FREEZE_LIMIT_EXPIRY: engine control's event of a tick it has not taken yet (R149). -/
def execFreezeLimitExpiry (s : State) : Host.Outcome State Fault Refusal :=
  .next (if s.supplied then s.takeEngineTick else s)

/-- OVERDUE_BEGIN: the journal's event of a minute tick it has not taken yet (R137, R138). -/
def execOverdueBegin (s : State) : Host.Outcome State Fault Refusal :=
  .next (if s.supplied then s.takeJournalTick else s)

end Sys2Proof.Machine
end

