-- ==== Sys2Proof/Machine/Dispatch.lean ====
section
/-! DEFINITION. The meaning of every command: one arm per row of the table. -/

namespace Sys2Proof.Machine

/-- The effect of a command on everything but the queue. -/
def exec (i : Instr) (s : State) : Host.Outcome State Fault Refusal :=
  match i with
  | .bal station body => Sys2Proof.Machine.execBal station body s
  | .hold station body => Sys2Proof.Machine.execHold station body s
  | .settle station body => Sys2Proof.Machine.execSettle station body s
  | .sale station body => Sys2Proof.Machine.execSale station body s
  | .drop station body => Sys2Proof.Machine.execDrop station body s
  | .cash station body => Sys2Proof.Machine.execCash station body s
  | .repeatReply station body => Sys2Proof.Machine.execRepeatReply station body s
  | .laneFrameEnd address kind body check => Sys2Proof.Machine.execLaneFrameEnd address kind body check s
  | .parityRefusal => Sys2Proof.Machine.execParityRefusal s
  | .laneLengthAbandon => Sys2Proof.Machine.execLaneLengthAbandon s
  | .laneFrameTimeout => Sys2Proof.Machine.execLaneFrameTimeout s
  | .brokenWaitEnd => Sys2Proof.Machine.execBrokenWaitEnd s
  | .turnaroundEnd => Sys2Proof.Machine.execTurnaroundEnd s
  | .replyPreempt => Sys2Proof.Machine.execReplyPreempt s
  | .replyCollision => Sys2Proof.Machine.execReplyCollision s
  | .replyComplete => Sys2Proof.Machine.execReplyComplete s
  | .breakRisingEdge periods => Sys2Proof.Machine.execBreakRisingEdge periods s
  | .ratedBreakDetect => Sys2Proof.Machine.execRatedBreakDetect s
  | .answeringBreakEnd => Sys2Proof.Machine.execAnsweringBreakEnd s
  | .framingError => Sys2Proof.Machine.execFramingError s
  | .resyncEnd => Sys2Proof.Machine.execResyncEnd s
  | .officeLengthAbandon => Sys2Proof.Machine.execOfficeLengthAbandon s
  | .officeFrameTimeout => Sys2Proof.Machine.execOfficeFrameTimeout s
  | .officeFrameEnd kind body check => Sys2Proof.Machine.execOfficeFrameEnd kind body check s
  | .officeReplyEnd => Sys2Proof.Machine.execOfficeReplyEnd s
  | .enrol body => Sys2Proof.Machine.execEnrol body s
  | .retire body => Sys2Proof.Machine.execRetire body s
  | .block body => Sys2Proof.Machine.execBlock body s
  | .unblock body => Sys2Proof.Machine.execUnblock body s
  | .reclass body => Sys2Proof.Machine.execReclass body s
  | .adjust body => Sys2Proof.Machine.execAdjust body s
  | .purseRead body => Sys2Proof.Machine.execPurseRead body s
  | .purseNext body => Sys2Proof.Machine.execPurseNext body s
  | .classSet body => Sys2Proof.Machine.execClassSet body s
  | .credit body => Sys2Proof.Machine.execCredit body s
  | .batchOpen body => Sys2Proof.Machine.execBatchOpen body s
  | .batchItem body => Sys2Proof.Machine.execBatchItem body s
  | .batchClose body => Sys2Proof.Machine.execBatchClose body s
  | .batchAbort body => Sys2Proof.Machine.execBatchAbort body s
  | .batchResult body => Sys2Proof.Machine.execBatchResult body s
  | .clockSet body => Sys2Proof.Machine.execClockSet body s
  | .rolloverSet body => Sys2Proof.Machine.execRolloverSet body s
  | .windowSet body => Sys2Proof.Machine.execWindowSet body s
  | .stationSet body => Sys2Proof.Machine.execStationSet body s
  | .jnlNext body => Sys2Proof.Machine.execJnlNext body s
  | .jnlConfirm body => Sys2Proof.Machine.execJnlConfirm body s
  | .jnlRewind body => Sys2Proof.Machine.execJnlRewind body s
  | .journalSet body => Sys2Proof.Machine.execJournalSet body s
  | .go body => Sys2Proof.Machine.execGo body s
  | .freeze body => Sys2Proof.Machine.execFreeze body s
  | .thaw body => Sys2Proof.Machine.execThaw body s
  | .restart body => Sys2Proof.Machine.execRestart body s
  | .restartWarmStart => Sys2Proof.Machine.execRestartWarmStart s
  | .watchSet body => Sys2Proof.Machine.execWatchSet body s
  | .attnTake body => Sys2Proof.Machine.execAttnTake body s
  | .attnDone body => Sys2Proof.Machine.execAttnDone body s
  | .attnEnable body => Sys2Proof.Machine.execAttnEnable body s
  | .laneRateSet body => Sys2Proof.Machine.execLaneRateSet body s
  | .status body => Sys2Proof.Machine.execStatus body s
  | .statusClear body => Sys2Proof.Machine.execStatusClear body s
  | .secondsTick order => Sys2Proof.Machine.execSecondsTick order s
  | .holdExpiry => Sys2Proof.Machine.execHoldExpiry s
  | .freezeLimitExpiry => Sys2Proof.Machine.execFreezeLimitExpiry s
  | .overdueBegin => Sys2Proof.Machine.execOverdueBegin s
  | .resetAssert => Sys2Proof.Machine.execResetAssert s
  | .resetRelease lowNanoseconds => Sys2Proof.Machine.execResetRelease lowNanoseconds s
  | .powerLoss => Sys2Proof.Machine.execPowerLoss s
  | .retentionLoss => Sys2Proof.Machine.execRetentionLoss s
  | .powerReturn => Sys2Proof.Machine.execPowerReturn s
  | .laneFrameStart => Sys2Proof.Machine.execLaneFrameStart s
  | .officeFrameStart => Sys2Proof.Machine.execOfficeFrameStart s
  | .restartMarkEnd => Sys2Proof.Machine.execRestartMarkEnd s
  | .startBreakEnd => Sys2Proof.Machine.execStartBreakEnd s
  | .unknownRequestKind station kind body => Sys2Proof.Machine.execUnknownRequestKind station kind body s

end Sys2Proof.Machine
end

