-- ==== Sys2Proof/Safety.lean ====
section
/-! DEFINITION. The terms the claims use: when a port can take a command, what a reply leaves in a port, what an append
leaves, and the sound states, one predicate for each block, that every step keeps. -/

namespace Sys2Proof.Machine

/-! ## Ports ready to take a command -/

/-- VDD is present and RESETn is released: blocks take requests, commands and ticks (R142). -/
abbrev State.Powered (s : State) : Prop := s.supply.vdd = true ∧ s.supply.resetLow = false

/-- The office link port receives frames: powered, RATED, not in RESYNC (R168, R170). -/
abbrev State.OfficeHears (s : State) : Prop :=
  s.Powered ∧ s.office.bitTime ≠ none ∧ s.office.receiver ≠ .resync

/-- The office link port takes the next good frame as a command: it receives, and the reply period is off (R171, R172). -/
abbrev State.OfficeOpen (s : State) : Prop :=
  s.Powered ∧ s.office.transmit = .idle ∧ s.office.bitTime ≠ none ∧ s.office.receiver ≠ .resync

/-- The office link port once a command has been taken and answered: the receiver seeks, the reply is being sent with the
link flags as they stood, and the flags are clear (R171, R172, R173). -/
def OfficePort.replied (o : OfficePort) (status : OfficeStatus) (body : List Byte) : OfficePort :=
  { o with
    receiver := .seeking, transmit := .reply { status := status, flags := o.flags, body := body }, flags := LinkFlags.clear }

/-- The state once an office command has been answered. -/
def State.replied (s : State) (status : OfficeStatus) (body : List Byte) : State :=
  { s with office := s.office.replied status body }

/-- The lane bus port waits in TURNAROUND for the outcome of this one frame, which it has handed on (R160, R161), and the
station is one (R60). -/
abbrev State.LaneAsked (s : State) (station : Nat) (kind : Byte) (body : List Byte) : Prop :=
  s.Powered ∧ s.port.receiver = .turnaround .awaited ∧ s.port.handed = [{ station := station, kind := kind, body := body }] ∧
    (s.station station).kind ≠ .none

/-- The lane bus port once the outcome of the frame it waited on has been handed back (R161). -/
def LanePort.holding (p : LanePort) (r : LaneReply) : LanePort :=
  { p with handed := [], receiver := .turnaround (.reply r) }

/-- The reply to an answered request (R91, R92): OVERDUE as the journal stands, SHORT with SHORT_OK, REPEATED clear. -/
def State.laneReply (s : State) (station : Nat) (status : LaneStatus) (body : List Byte) : LaneReply :=
  { station := station, status := status, overdue := decide (s.journal.timer = 0), short := decide (status = .shortOk),
    repeated := false, body := body }

/-- The state once a request has been answered: the reply held by the port, the station's last-reply record written with
delivered clear (R85, R91, R95). -/
def State.laneAnswered (s : State) (station : Nat) (kind : Byte) (card : Nat) (status : LaneStatus) (body : List Byte) :
    State :=
  { s with
    lane := { s.lane with
      lastReplies := s.lane.lastReplies.setIfInBounds (station - 1)
        (some { kind := kind, card := card, status := status, short := decide (status = .shortOk), body := body,
                delivered := false })
      outcome := some (s.laneReply station status body) }
    port := s.port.holding (s.laneReply station status body) }

/-! ## Commands by their form on the links -/

/-- The request of a kind that goes through the common checks (R86). -/
def RequestKind.request : RequestKind → Nat → List Byte → Instr
  | .bal, station, body => .bal station body
  | .hold, station, body => .hold station body
  | .settle, station, body => .settle station body
  | .sale, station, body => .sale station body
  | .drop, station, body => .drop station body
  | .cash, station, body => .cash station body

/-- The station, the kind character and the body of a lane request; a request of an unknown kind has none of the seven kinds
(R86, R158, R181). -/
def laneForm : Instr → Option (Nat × Byte × List Byte)
  | .bal st b => some (st, 1, b)
  | .hold st b => some (st, 2, b)
  | .settle st b => some (st, 3, b)
  | .sale st b => some (st, 4, b)
  | .drop st b => some (st, 5, b)
  | .cash st b => some (st, 6, b)
  | .repeatReply st b => some (st, 7, b)
  | .unknownRequestKind st k b => if k.toNat = 0 ∨ 7 < k.toNat then some (st, k, b) else none
  | _ => none

/-- The kind character of an office command, the length its body must have, and its body (R171, R181). -/
def officeForm : Instr → Option (Byte × Nat × List Byte)
  | .enrol b => some (1, 8, b)
  | .retire b => some (2, 4, b)
  | .block b => some (3, 4, b)
  | .unblock b => some (4, 4, b)
  | .reclass b => some (5, 5, b)
  | .adjust b => some (6, 8, b)
  | .credit b => some (7, 7, b)
  | .purseRead b => some (8, 4, b)
  | .purseNext b => some (9, 4, b)
  | .classSet b => some (10, 13, b)
  | .windowSet b => some (11, 18, b)
  | .rolloverSet b => some (12, 3, b)
  | .stationSet b => some (13, 5, b)
  | .journalSet b => some (14, 3, b)
  | .laneRateSet b => some (15, 2, b)
  | .clockSet b => some (16, 5, b)
  | .go b => some (17, 0, b)
  | .freeze b => some (18, 1, b)
  | .thaw b => some (19, 0, b)
  | .restart b => some (20, 0, b)
  | .batchOpen b => some (21, 8, b)
  | .batchItem b => some (22, 7, b)
  | .batchClose b => some (23, 0, b)
  | .batchAbort b => some (24, 0, b)
  | .batchResult b => some (25, 2, b)
  | .jnlNext b => some (26, 0, b)
  | .jnlConfirm b => some (27, 4, b)
  | .jnlRewind b => some (28, 0, b)
  | .watchSet b => some (29, 5, b)
  | .attnTake b => some (30, 0, b)
  | .attnDone b => some (31, 0, b)
  | .attnEnable b => some (32, 1, b)
  | .status b => some (33, 2, b)
  | .statusClear b => some (34, 0, b)
  | _ => none

/-- The body of a WINDOW_SET of these entries: 3 bytes each, start in bits 0 to 10, end in bits 11 to 21, used in bit 22,
subsidised in bit 23 (R181). -/
def windowsBody (ws : List Window) : List Byte :=
  ws.flatMap (fun w => leBytes 3 (w.start + 2048 * w.stop + (if w.used then 4194304 else 0)
    + if w.subsidised then 8388608 else 0))

/-- A card number that names no card (R14). -/
abbrev noCard (card : Nat) : Prop := card = 0 ∨ 99999999 < card

/-- An office command with a field that cannot be a value of its kind: the commands refused BAD_REQUEST whatever the state
(R9, R14, R28, R34, R61, R99, R113, R119, R133, R164, R179, R183). -/
def badField : Instr → Prop
  | .enrol b => noCard (field b 0 4) ∨ 7 < field b 4 1
  | .reclass b => noCard (field b 0 4) ∨ 7 < field b 4 1
  | .retire b | .block b | .unblock b | .adjust b | .purseRead b | .credit b | .batchItem b => noCard (field b 0 4)
  | .purseNext b => 99999999 < field b 0 4
  | .classSet b => 7 < field b 0 1
  | .rolloverSet b => 1439 < field b 0 2 ∨ 1 < field b 2 1
  | .stationSet b => field b 0 1 = 0 ∨ 14 < field b 0 1 ∨ 2 < field b 1 1
  | .clockSet b => 1439 < field b 2 2 ∨ 59 < field b 4 1
  | .batchOpen b => field b 0 2 = 0
  | .batchResult b => 512 < field b 0 2
  | .jnlConfirm b => field b 0 4 = 0
  | .watchSet b => 3 < field b 0 1 ∨ 99999999 < field b 1 4
  | .attnEnable b => 64 ≤ field b 0 1
  | .status b => 7 < field b 0 1 ∨
      (if field b 0 1 = 2 then 5 else if field b 0 1 = 3 then 2 else 1) ≤ field b 1 1
  | _ => False

/-- Whether the characters of an office frame sum to 0 modulo 256 (R171). -/
abbrev officeSumZero (kind : Byte) (body : List Byte) (check : Byte) : Prop :=
  (kind.toNat + body.length + (body.map BitVec.toNat).sum + check.toNat) % 256 = 0

/-- Whether the characters of a lane frame sum to 0 modulo 256 (R158). -/
abbrev laneSumZero (address kind : Byte) (body : List Byte) (check : Byte) : Prop :=
  (address.toNat + kind.toNat + body.length + (body.map BitVec.toNat).sum + check.toNat) % 256 = 0

/-! ## Appending -/

/-- The attention unit after an append: the conditions the new occupancy begins (R127, R176). -/
def AttentionUnit.afterAppend (a : AttentionUnit) (j : Journal) : AttentionUnit :=
  let b := if j.records.length + 1 = j.highWater then a.conditionBegins .journalHigh else a
  if j.records.length + 1 = 2047 then b.conditionBegins .journalFull else b

/-- The attention unit after the end of a condition is reported when `p` holds (R127, R176). -/
def AttentionUnit.afterEnd (a : AttentionUnit) (c : Cause) (p : Prop) [Decidable p] : AttentionUnit :=
  if p then a.conditionEnds c else a

/-- The state with one record appended: it takes the next sequence number and the clock as it stands, and the conditions
the append begins are reported (R124, R125, R127). -/
def State.withRecord (s : State) (source : Nat) (body : RecordBody) : State :=
  { s with
    journal := { s.journal with
      records := s.journal.records ++
        [{ seq := s.journal.nextSeq, source := source, minute := s.time.minute, day := s.time.day, body := body }]
      nextSeq := if s.journal.nextSeq = 4294967295 then 1 else s.journal.nextSeq + 1 }
    attention := s.attention.afterAppend s.journal }

/-- The state with one credit applied (R106): the balance, the float total and the day credit total rise by the amount, and
one record is appended. -/
def State.credited (s : State) (card amount source : Nat) (body : RecordBody) : State :=
  { s with purses := { s.purses with
      purses := s.purses.purses.map (fun q : Purse => if q.card = card then { q with balance := q.balance + amount } else q)
      floatTotal := s.purses.floatTotal + amount
      creditTotal := min (s.purses.creditTotal + amount) 4294967295 } }.withRecord source body

/-- One item of a close (R116): why it is rejected, `none` when it is applied, and the state it leaves. -/
def State.closeVerdict (s : State) (item : BatchItem) : Option RejectReason × State :=
  if 1920 ≤ s.journal.records.length then (some .noRoom, s)
  else
    match s.purse? item.card with
    | none => (some .unknownCard, s)
    | some p =>
      if 999999 < p.balance + item.amount then (some .purseFull, s)
      else
        (none, s.credited item.card item.amount 0
          (.batchCredit item.card item.amount (p.balance + item.amount) s.credit.batchId))

/-- The verdicts on the items of a close in list order, each against the state the earlier items left (R116). -/
def State.closeVerdicts (s : State) : List BatchItem → List (Option RejectReason) × State
  | [] => ([], s)
  | item :: items =>
    let r := (s.closeVerdict item).2.closeVerdicts items
    ((s.closeVerdict item).1 :: r.1, r.2)

/-- The result entries of a close (R117): one for each rejected item, with its index from 1. -/
def rejectedItems (items : List BatchItem) (verdicts : List (Option RejectReason)) : List RejectedItem :=
  ((items.zip verdicts).zipIdx 1).filterMap
    (fun e => e.1.2.map (fun reason => { index := e.2, card := e.1.1.card, reason := reason }))

/-- The sum of the amounts of the applied items of a close (R117). -/
def appliedAmounts (items : List BatchItem) (verdicts : List (Option RejectReason)) : Nat :=
  ((items.zip verdicts).map (fun e => if e.2 = none then e.1.amount else 0)).sum

/-- The amount of a record, the change of a balance; a DAY_MARK changes none (R125). -/
def RecordBody.amount : RecordBody → Int
  | .enrol _ a _ => a
  | .debit _ _ _ a _ _ => a
  | .credit _ a _ => a
  | .batchCredit _ a _ _ => a
  | .cash _ a _ => a
  | .adjust _ a _ => a
  | .retire _ a _ => a
  | .dayMark .. => 0

/-- The balance after a record's change; a DAY_MARK has none (R125). -/
def RecordBody.after : RecordBody → Int
  | .enrol _ _ b => b
  | .debit _ _ _ _ b _ => b
  | .credit _ _ b => b
  | .batchCredit _ _ b _ => b
  | .cash _ _ b => b
  | .adjust _ _ b => b
  | .retire _ _ b => b
  | .dayMark .. => 0

/-- The card of a record, 0 for a DAY_MARK (R125). -/
def RecordBody.card : RecordBody → Nat
  | .enrol c _ _ => c
  | .debit c _ _ _ _ _ => c
  | .credit c _ _ => c
  | .batchCredit c _ _ _ => c
  | .cash c _ _ => c
  | .adjust c _ _ => c
  | .retire c _ _ => c
  | .dayMark .. => 0

/-- A cause is eligible (R175). -/
abbrev causeEligible (a : AttentionUnit) (c : Cause) : Prop :=
  a.pending.get c = true ∧ a.acknowledged.get c = false ∧
    (c = .overdue ∨ c = .journalFull ∨ (a.enabled.get c = true ∧ a.taken = false))

/-- The balance of a card, 0 for a card without a record. -/
def State.balanceOf (s : State) (card : Nat) : Int := ((s.purse? card).map Purse.balance).getD 0

/-- The layout of a purse record in a reply, with the held amount and the marks of the two stamps (R21, R182). -/
def State.purseLayout (s : State) (p : Purse) : List Byte :=
  leBytes 4 p.card ++ leBytes 1 (if p.state = .blocked then 1 else 0) ++ leBytes 1 p.cls.val ++ leBytesInt 4 p.balance
    ++ leBytes 1 (p.holdStation.getD 0) ++ leBytes 3 (s.heldAmount p) ++ leBytes 3 p.daySpend
    ++ leBytes 2 (p.daySpendStamp.getD 0) ++ leBytes 2 p.windowUsed ++ leBytes 2 ((p.occurrence.map Prod.fst).getD 0)
    ++ leBytes 1 ((p.occurrence.map Prod.snd).getD 0)
    ++ leBytes 1 ((if p.daySpendStamp = none then 0 else 1) + if p.occurrence = none then 0 else 2)

/-! ## The lane bus and the lane requests -/

/-- A count one higher that saturates at `top` (R99, R102, R145, R163). -/
def counted (top n : Nat) : Nat := if n < top then n + 1 else n

/-- The lane bus port in IDLE, with a pending rate in force (R156). -/
def LanePort.atIdle (p : LanePort) : LanePort :=
  { p with
    receiver := .idle, rate := match p.pendingRate with
      | none => p.rate
      | some r => r
    pendingRate := none }

/-- The state after a fault on the lane bus: the port as given, LANE_BUS_FAULT pending (R163, R177). -/
def State.faulted (s : State) (p : LanePort) : State :=
  { s with port := p, attention := { s.attention with pending := { s.attention.pending with laneBusFault := true } } }

/-- The characters of a request body: the card, and the amount or gross of the kinds that have one (R181). -/
def RequestKind.fields : RequestKind → Nat → Nat → List Byte
  | .bal, card, _ | .drop, card, _ => leBytes 4 card
  | .hold, card, amount | .settle, card, amount | .sale, card, amount | .cash, card, amount =>
    leBytes 4 card ++ leBytes 3 amount

/-- The state once the watch entries that name the card have recorded a hit (R100). -/
def State.watched (s : State) (station card : Nat) (kind : RequestKind) : State :=
  if ∃ w ∈ s.lane.watch.toList, w.card = card then
    { s with
      lane := { s.lane with watch := s.lane.watch.map (fun w : WatchEntry =>
        if w.card = card then
          { card := card, latch := true, hits := counted 255 w.hits, lastStation := station, lastKind := some kind }
        else w) }
      attention := { s.attention with pending := { s.attention.pending with watchHit := true } } }
  else s

/-- A lane request that reaches step 7 while the engine is RUNNING: the port waits for it, the card has a purse, and the
purse is ACTIVE (R87, R89, R90). -/
abbrev State.Admitted (s : State) (station : Nat) (kind : RequestKind) (card amount : Nat) (p : Purse) : Prop :=
  s.LaneAsked station kind.code (kind.fields card amount) ∧ 1 ≤ card ∧ card ≤ 99999999 ∧ s.engine.state = .running ∧
    s.purse? card = some p ∧ p.state = .active

/-- The day spend of a purse so far on the current day, Sd' (R6, R48). -/
def State.spentToday (s : State) (p : Purse) : Nat := if p.daySpendStamp = some s.time.day then p.daySpend else 0

/-- The window that makes a charge eligible for subsidy (R43). -/
def State.subsidyWindow (s : State) (p : Purse) : Option Nat :=
  match s.time.windowFound with
  | some (w, subsidised) => if subsidised = true ∧ 0 < s.purses.classes[p.cls].rate then some w else none
  | none => none

/-- The subsidy already used in the current occurrence of a window, U' (R44). -/
def State.usedToday (s : State) (p : Purse) (window : Nat) : Nat :=
  if p.occurrence = some (s.time.day, window) then p.windowUsed else 0

/-- The subsidy of a charge, S (R45, R46). -/
def State.subsidyFor (s : State) (p : Purse) (gross : Nat) : Nat :=
  match s.subsidyWindow p with
  | none => 0
  | some w =>
    min (gross * s.purses.classes[p.cls].rate / 1000) (s.purses.classes[p.cls].cap - s.usedToday p w)

/-- The purse amount of a charge, N (R47). -/
def State.netFor (s : State) (p : Purse) (gross : Nat) : Nat := gross - s.subsidyFor p gross

/-- The refusal of a charge, `none` when it is applied (R48 to R51); `kept` is the amount kept for another station's hold. -/
def State.chargeVerdict (s : State) (p : Purse) (gross kept : Nat) : Option LaneStatus :=
  if s.purses.classes[p.cls].dayLimit ≠ 0 ∧ s.purses.classes[p.cls].dayLimit < s.spentToday p + s.netFor p gross then
    some .dayLimit
  else if p.balance - s.netFor p gross < s.purses.classes[p.cls].floor + kept then some .insufficient
  else if 2047 ≤ s.journal.records.length then some .journalFull
  else none

/-- The purse after a charge, but for its hold station (R52). -/
def State.chargedPurse (s : State) (p : Purse) (gross : Nat) : Purse :=
  { p with
    balance := p.balance - s.netFor p gross
    daySpend := min (s.spentToday p + s.netFor p gross) 200000
    daySpendStamp := some s.time.day
    windowUsed := match s.subsidyWindow p with
      | none => p.windowUsed
      | some w => s.usedToday p w + s.subsidyFor p gross
    occurrence := match s.subsidyWindow p with
      | none => p.occurrence
      | some w => some (s.time.day, w) }

/-- The state after a charge, but for a consumed hold: the purse, the float and day totals and the DEBIT record (R52, R53). -/
def State.charged (s : State) (station : Nat) (p : Purse) (gross : Nat) : State :=
  { s with purses := { s.purses with
      purses := s.purses.purses.map (fun q : Purse => if q.card = p.card then s.chargedPurse p gross else q)
      floatTotal := s.purses.floatTotal - s.netFor p gross
      debitTotal := min (s.purses.debitTotal + s.netFor p gross) 4294967295
      subsidyTotal := min (s.purses.subsidyTotal + s.subsidyFor p gross) 4294967295 } }.withRecord station
    (.debit p.card gross (s.subsidyFor p gross) (-(s.netFor p gross : Int)) (p.balance - s.netFor p gross)
      (s.time.windowFound.map Prod.fst))

/-- The body of the reply to an applied charge (R54, R181). -/
def State.chargeBody (s : State) (p : Purse) (gross : Nat) : List Byte :=
  leBytes 3 gross ++ leBytes 3 (s.subsidyFor p gross) ++ leBytes 3 (s.netFor p gross)
    ++ leBytesInt 4 (p.balance - s.netFor p gross) ++ leBytes 4 s.journal.nextSeq

/-- The state with the hold of a card at a station removed (R65). -/
def State.withoutHold (s : State) (station card : Nat) : State :=
  { s with
    purses := { s.purses with
      purses := s.purses.purses.map (fun q : Purse => if q.card = card then { q with holdStation := none } else q) }
    holds := { s.holds with
      holds := s.holds.holds.filter (fun h : Hold => decide (¬ (h.card = card ∧ h.station = station))) } }

/-- The verdict on the funds of a HOLD: the refusal, or the granted amount (R57). -/
def State.grantVerdict (s : State) (p : Purse) (asked : Nat) : Option LaneStatus × Nat :=
  let c := s.purses.classes[p.cls]
  let room : Int := (c.dayLimit : Int) - s.spentToday p
  let ceiling := min asked c.holdCeiling
  let limited := if c.dayLimit = 0 then ceiling else min ceiling room.toNat
  if asked = 0 then (none, 0)
  else if c.dayLimit ≠ 0 ∧ room ≤ 0 then (some .dayLimit, 0)
  else if p.balance - c.floor ≤ 0 then (some .insufficient, 0)
  else (none, min limited (p.balance - c.floor).toNat)

/-! ## Day marks and starts -/

/-- The state with a DAY_MARK that names `lastDay` written, when the journal holds fewer than 2,048 records, and the day totals
begun again on the current day (R12, R126, R128 to R130). -/
def State.dayMarked (s : State) (lastDay : Nat) : State :=
  if s.journal.records.length < 2048 then
    { s.withRecord 0 (.dayMark s.purses.firstDay lastDay s.purses.floatTotal s.purses.debitTotal s.purses.subsidyTotal
        s.purses.creditTotal) with
      purses := { s.purses with debitTotal := 0, subsidyTotal := 0, creditTotal := 0, firstDay := s.time.day } }
  else s

/-- Every block's own state after a warm start, before the catch-up DAY_MARK and the attention unit (R24, R40, R84, R105, R122,
R141, R144, R165, R167). -/
def State.warmKept (s : State) (cause : StartCause) : State :=
  { s with
    purses := { s.purses with purses := s.purses.purses.map (fun q : Purse => { q with holdStation := none }) }
    holds := { stations := s.holds.stations, holds := [], lastExpired := Vector.replicate 14 none }
    credit := { state := .none, batchId := 0, declaredCount := 0, declaredTotal := 0, staging := [], stagedSum := 0,
                results := [],
                summary := { appliedCount := 0, appliedTotal := 0, rejectedCount := 0, firstSeq := 0, lastSeq := 0 } }
    journal := { s.journal with
      timer := s.journal.reload
      cursor := match s.journal.records with
        | [] => s.journal.nextSeq
        | r :: _ => r.seq }
    lane := { lastReplies := Vector.replicate 14 none, watch := s.lane.watch.map (fun w : WatchEntry => { w with latch := false }),
              blockedSeen := { card := 0, station := 0, minute := 0, count := 0 }, outcome := none }
    port := { receiver := .mark, rate := s.port.rate, pendingRate := none, handed := [], counters := LaneCounters.zero,
              faults := FaultKinds.empty }
    office := { bitTime := none, receiver := .seeking, transmit := .startBreak false, flags := LinkFlags.clear,
                restartPending := false }
    engine := { state := if s.time.valid then .running else .unset, reason := none, limit := s.engine.limit, timer := 0,
                change := none, changeCount := 0, startCause := cause }
    ticks := { hold := false, engine := false, journal := false } }

/-- The state after a warm start (R130, R142, R180). -/
def State.warmStarted (s : State) (cause : StartCause) : State :=
  let k := s.warmKept cause
  let t := if s.purses.firstDay = s.time.day then k
    else k.dayMarked (if s.time.day = 0 then 65535 else s.time.day - 1)
  let held : CauseFlags := { CauseFlags.clear with
    journalHigh := decide (t.journal.highWater ≤ t.journal.records.length)
    journalFull := decide (2047 ≤ t.journal.records.length) }
  { t with attention := { pending := held, acknowledged := CauseFlags.clear, condition := held, enabled := CauseFlags.clear,
                          taken := false } }

/-- The command by which a block takes a tick that is due to it (R77, R137, R149; assumption 6). -/
def tickCommand : TickTaker → Option Instr
  | .holdUnit => some .holdExpiry
  | .engineControl => some .freezeLimitExpiry
  | .journal => some .overdueBegin
  | .rollover => none

/-- The state once one block has taken the tick due to it, by its own command; the time unit's rollover check is no block's
tick. -/
def State.tickTakenBy (s : State) (x : TickTaker) : State :=
  match tickCommand x with
  | none => s
  | some c =>
    match exec c s with
    | .next t => t
    | .fault _ => s
    | .refused _ => s

/-- The state once the blocks named have taken the ticks due to them, one after the other. -/
def State.ticksTakenBy (s : State) (order : List TickTaker) : State := order.foldl State.tickTakenBy s

/-- The state after a rollover (R30, R31, R128, R150): the day advances, the DAY_MARK of the day just ended is written unless the
engine is UNSET, ROLLOVER is raised, and a RUNNING engine with the flag on is frozen with reason ROLLOVER. -/
def State.rolledOver (s : State) : State :=
  let today := if s.time.day = 65535 then 0 else s.time.day + 1
  let d : State := { s with time := { s.time with day := today } }
  let m := if s.engine.state = .unset then d else d.dayMarked s.time.day
  let r : State := { m with attention := { m.attention with pending := { m.attention.pending with rollover := true } } }
  if s.engine.state = .running ∧ s.time.rolloverFreeze = true then
    { r with
      engine := { s.engine with
        state := .frozen, reason := some .rollover, timer := s.engine.limit * 60,
        changeCount := counted 255 s.engine.changeCount,
        change := some { change := .entry, reason := .rollover, day := today, minute := s.time.minute } }
      attention := { r.attention with pending := { r.attention.pending with freezeChange := true } } }
  else r

/-- The next seconds tick is the minute tick at which the day rolls over (R26, R30). -/
abbrev State.RolloverNext (s : State) : Prop :=
  59 ≤ s.time.second ∧ s.time.valid = true ∧ (if s.time.minute < 1439 then s.time.minute + 1 else 0) = s.time.rolloverMinute

/-! ## Sound states -/

/-- The purse table and its totals (R1, R2, R3, R8, R10, R11). -/
abbrev State.PursesSound (s : State) : Prop :=
  s.purses.purses.Pairwise (fun p q => p.card < q.card) ∧ s.purses.purses.length ≤ 4096 ∧
  (∀ p ∈ s.purses.purses, 1 ≤ p.card ∧ p.card ≤ 99999999 ∧ -20000 ≤ p.balance ∧ p.balance ≤ 999999 ∧
    p.daySpend ≤ 200000 ∧ p.windowUsed ≤ 50000) ∧
  (∀ c ∈ s.purses.classes.toList, c.rate ≤ 1000 ∧ c.cap ≤ 50000 ∧ -20000 ≤ c.floor ∧ c.floor ≤ 0 ∧ c.dayLimit ≤ 200000 ∧
    c.holdCeiling ≤ 99999) ∧
  s.purses.floatTotal = (s.purses.purses.map Purse.balance).sum ∧
  s.purses.debitTotal ≤ 4294967295 ∧ s.purses.subsidyTotal ≤ 4294967295 ∧ s.purses.creditTotal ≤ 4294967295

/-- The pool, the queues and the purses' hold stations agree (R5, R17, R60, R61, R63, R64, R84). -/
abbrev State.HoldsSound (s : State) : Prop :=
  (∀ e ∈ s.holds.stations.toList, e.quota ≤ 8 ∧ 30 ≤ e.lifetime ∧ e.lifetime ≤ 900) ∧
  s.holds.holds.length ≤ 64 ∧ (s.holds.holds.map Hold.card).Nodup ∧
  (∀ h ∈ s.holds.holds, (s.station h.station).kind = .till ∧ h.granted ≤ 99999 ∧ 1 ≤ h.remaining ∧ h.remaining ≤ 900 ∧
    (s.queue h.station).length ≤ 8 ∧ ∃ p ∈ s.purses.purses, p.card = h.card ∧ p.holdStation = some h.station) ∧
  (∀ p ∈ s.purses.purses, p.holdStation = none ∨
    p.state = .active ∧ ∃ h ∈ s.holds.holds, h.card = p.card ∧ p.holdStation = some h.station) ∧
  (∀ k : Fin 14, s.holds.lastExpired[k] ≠ none → (s.holds.stations[k]).kind = .till) ∧
  (s.engine.state = .unset → s.holds.holds = [])

/-- The sequence numbers run on without a gap, 1 following 4,294,967,295 (R124). -/
def consecutive : List Nat → Bool
  | [] => true
  | [_] => true
  | a :: b :: l => (b == if a = 4294967295 then 1 else a + 1) && consecutive (b :: l)

/-- The series of the sequence numbers held, closed by the next one (R124). -/
def Journal.series (j : Journal) : List Nat := j.records.map Record.seq ++ [j.nextSeq]

/-- The journal (R123, R124, R126, R131, R137). -/
abbrev State.JournalSound (s : State) : Prop :=
  s.journal.records.length ≤ 2048 ∧ consecutive s.journal.series = true ∧
  (∀ n ∈ s.journal.series, 1 ≤ n ∧ n ≤ 4294967295) ∧ s.journal.cursor ∈ s.journal.series ∧
  256 ≤ s.journal.highWater ∧ s.journal.highWater ≤ 1920 ∧ 5 ≤ s.journal.reload ∧ s.journal.reload ≤ 120 ∧
  s.journal.timer ≤ s.journal.reload ∧
  (s.journal.records.length < s.journal.highWater → s.journal.timer = s.journal.reload)

/-- The clock, the days, the window table and the engine (R25, R27, R29, R36, R144, R145). -/
abbrev State.ClockEngineSound (s : State) : Prop :=
  s.time.second ≤ 59 ∧ s.time.minute ≤ 1439 ∧ s.time.day ≤ 65535 ∧ s.time.rolloverMinute ≤ 1439 ∧
  (s.time.valid = false → s.time.day = 0) ∧
  windowTableGood s.time.windows = true ∧ (∀ w ∈ s.time.windows.toList, w.used = false → w = Window.unused) ∧
  s.purses.firstDay ≤ 65535 ∧
  (∀ p ∈ s.purses.purses, (∀ d, p.daySpendStamp = some d → d ≤ 65535) ∧
    (∀ o, p.occurrence = some o → o.1 ≤ 65535 ∧ o.2 ≤ 5)) ∧
  (s.engine.state ≠ .unset → s.time.valid = true) ∧
  (0 < s.engine.timer ↔ s.engine.state = .frozen) ∧ (s.engine.reason ≠ none ↔ s.engine.state = .frozen) ∧
  s.engine.timer ≤ 900 ∧ 1 ≤ s.engine.limit ∧ s.engine.limit ≤ 15 ∧ s.engine.changeCount ≤ 255

/-- The attention unit: the level conditions are those of the journal, a condition that holds is pending, only a pending
cause whose condition holds is acknowledged, and only maskable causes are enabled (R127, R138, R175, R176). -/
abbrev State.AttentionSound (s : State) : Prop :=
  s.attention.condition = { CauseFlags.clear with
    journalHigh := decide (s.journal.highWater ≤ s.journal.records.length)
    journalFull := decide (2047 ≤ s.journal.records.length)
    overdue := decide (s.journal.timer = 0) } ∧
  (∀ c ∈ causesHighestFirst, s.attention.condition.get c = true → s.attention.pending.get c = true) ∧
  (∀ c ∈ causesHighestFirst, s.attention.acknowledged.get c = true → s.attention.condition.get c = true) ∧
  s.attention.enabled.journalFull = false ∧ s.attention.enabled.overdue = false

/-- The batch (R112, R114, R117). -/
abbrev State.BatchSound (s : State) : Prop :=
  let c := s.credit
  c.stagedSum = (c.staging.map BatchItem.amount).sum ∧
  (∀ i ∈ c.staging, 1 ≤ i.amount ∧ i.amount ≤ 200000 ∧ 1 ≤ i.card ∧ i.card ≤ 99999999) ∧
  c.staging.length ≤ c.declaredCount ∧ c.declaredCount ≤ 512 ∧ c.declaredTotal ≤ 102400000 ∧ c.batchId ≤ 65535 ∧
  c.summary.rejectedCount = c.results.length ∧
  (c.state = .none → c.batchId = 0 ∧ c.declaredCount = 0 ∧ c.declaredTotal = 0) ∧
  (c.state ≠ .none → 1 ≤ c.batchId ∧ 1 ≤ c.declaredCount ∧ c.declaredCount ≤ c.declaredTotal) ∧
  (c.state ≠ .closed → c.results = [] ∧ c.summary = BatchSummary.zero) ∧
  (c.state = .closed → c.staging.length = c.declaredCount ∧ c.stagedSum = c.declaredTotal ∧
    c.summary.appliedCount + c.summary.rejectedCount = c.declaredCount ∧
    c.summary.appliedTotal + (c.results.map (fun r => ((c.staging[r.index - 1]?).map BatchItem.amount).getD 0)).sum =
      c.declaredTotal)

/-- A lane bit rate (R156). -/
abbrev laneRateGood (rate : Nat) : Prop := rate = 9600 ∨ rate = 19200 ∨ rate = 38400 ∨ rate = 57600

/-- The two ports and the lane request unit (R99, R102, R156, R157, R160, R163, R167, R169). -/
abbrev State.PortsSound (s : State) : Prop :=
  laneRateGood s.port.rate ∧ (∀ r, s.port.pendingRate = some r → laneRateGood r) ∧
  (s.port.receiver = .idle → s.port.pendingRate = none) ∧
  (s.port.receiver = .turnaround .awaited → s.port.handed ≠ []) ∧
  (∀ f ∈ s.port.handed, 1 ≤ f.station ∧ f.station ≤ 14 ∧ f.body.length ≤ 12) ∧
  s.port.counters.goodFrames ≤ 65535 ∧ s.port.counters.parityRefusals ≤ 65535 ∧ s.port.counters.badChecks ≤ 65535 ∧
  s.port.counters.timeouts ≤ 65535 ∧ s.port.counters.unknownStations ≤ 65535 ∧ s.port.counters.replyLosses ≤ 65535 ∧
  (∀ t, s.office.bitTime = some t → 69 ≤ t ∧ t ≤ 1667) ∧
  (s.office.bitTime = none → s.office.receiver = .seeking ∧ s.office.replyPeriod = false) ∧
  (s.office.transmit = .startBreak false → s.office.bitTime = none) ∧
  (s.office.restartPending = true → s.office.replyPeriod = true) ∧
  (∀ answer, s.office.transmit = .startBreak answer → s.office.restartPending = false) ∧
  (∀ w ∈ s.lane.watch.toList, w.card ≤ 99999999 ∧ w.hits ≤ 255 ∧ w.lastStation ≤ 14 ∧ (w.card = 0 → w = WatchEntry.unused)) ∧
  s.lane.blockedSeen.count ≤ 255 ∧ s.lane.blockedSeen.station ≤ 14

end Sys2Proof.Machine
end

