-- ==== Sys2Proof/Certificates/Slice0/Obligations.lean ====
section
/-! DEFINITION. The statements for the provers. A result statement is an equation for `exec`: it names every outcome of its
command on an open port, with the whole state after it, so that whatever it does not name is unchanged. A state that can take
an office command is `OfficeOpen`; one in which the lane bus port waits for the outcome of a frame is `LaneAsked`. Bodies are
spelled field by field as R181 lays them out. -/

open Sys2Proof Sys2Proof.Machine

/-! ## The machine -/

/-- A step takes the command at the front of the queue and answers `exec` on it with the queue's rest. That the block idles
on an empty queue is the model's choice (assumption 1). -/
def Obligations.StepTakesFrontCommand : Prop :=
  (∀ (s : State) (c : Instr) (rest : List Instr), step { s with pending := c :: rest } = exec c { s with pending := rest }) ∧
  ∀ s : State, s.pending = [] → step s = .next s

/-- Every command has a next state in every state, and none touches the queue of the commands that wait. -/
def Obligations.EveryCommandCompletes : Prop :=
  ∀ (c : Instr) (s : State), ∃ t, exec c s = .next t ∧ t.pending = s.pending

/-! ## The purse store (R9, R14 to R22) -/

/-- R15: the checks of ENROL in their order, and the record, the float, the credit total, the journal record and the reply of
an accepted one. -/
def Obligations.EnrolResult : Prop :=
  ∀ (s : State) (card : Nat) (cls : Fin 8) (opening : Nat), s.OfficeOpen → s.PursesSound → 1 ≤ card → card ≤ 99999999 →
    opening < 16777216 →
    exec (.enrol (leBytes 4 card ++ leBytes 1 cls.val ++ leBytes 3 opening)) s = .next (
      if 999999 < opening then s.replied .range []
      else if s.purse? card ≠ none then s.replied .cardExists []
      else if s.purses.purses.length = 4096 then s.replied .tableFull []
      else if 1920 ≤ s.journal.records.length then s.replied .noRoom []
      else
        ({ s with purses := { s.purses with
            purses := s.purses.purses.filter (fun q : Purse => decide (q.card < card)) ++
              ({ card := card, state := .active, cls := cls, balance := opening, holdStation := none, daySpend := 0,
                 daySpendStamp := none, windowUsed := 0, occurrence := none } : Purse) ::
              s.purses.purses.filter (fun q : Purse => decide (card < q.card))
            floatTotal := s.purses.floatTotal + opening
            creditTotal := min (s.purses.creditTotal + opening) 4294967295 } }.withRecord 0
          (.enrol card opening opening)).replied .ok (leBytes 4 s.journal.nextSeq ++ leBytesInt 4 opening))

/-- R16: the checks of RETIRE in their order, and the removal, the float, the journal record and the reply of an accepted
one. -/
def Obligations.RetireResult : Prop :=
  ∀ (s : State) (card : Nat), s.OfficeOpen → 1 ≤ card → card ≤ 99999999 →
    exec (.retire (leBytes 4 card)) s = .next (
      match s.purse? card with
      | none => s.replied .unknownCard []
      | some p =>
        if p.holdStation ≠ none then s.replied .hasHold []
        else if 1920 ≤ s.journal.records.length then s.replied .noRoom []
        else
          ({ s with purses := { s.purses with
              purses := s.purses.purses.filter (fun q : Purse => decide (q.card ≠ card))
              floatTotal := s.purses.floatTotal - p.balance } }.withRecord 0 (.retire card (-p.balance) 0)).replied .ok
            (leBytes 4 s.journal.nextSeq ++ leBytesInt 4 p.balance))

/-- R17, R80: BLOCK of an ACTIVE purse sets the state and releases its hold, answering the station and the granted amount;
BLOCK of a BLOCKED purse answers 0 and 0 and changes nothing. -/
def Obligations.BlockResult : Prop :=
  ∀ (s : State) (card : Nat), s.OfficeOpen → 1 ≤ card → card ≤ 99999999 →
    exec (.block (leBytes 4 card)) s = .next (
      match s.purse? card with
      | none => s.replied .unknownCard []
      | some p =>
        if p.state = .blocked then s.replied .ok [0, 0, 0, 0]
        else
          match p.holdStation with
          | none =>
            { s with purses := { s.purses with purses := s.purses.purses.map (fun q : Purse =>
              if q.card = card then { q with state := .blocked } else q) } }.replied .ok [0, 0, 0, 0]
          | some station =>
            { s with
              purses := { s.purses with purses := s.purses.purses.map (fun q : Purse =>
                if q.card = card then { q with state := .blocked, holdStation := none } else q) }
              holds := { s.holds with
                holds := s.holds.holds.filter (fun h : Hold => decide (¬ (h.card = card ∧ h.station = station))) } }.replied
              .ok (leBytes 1 station ++ leBytes 3 (s.heldAmount p)))

/-- R18, R19: UNBLOCK sets the state to ACTIVE and RECLASS the class, each with an empty reply, and nothing else changes; a card
with no record is refused UNKNOWN_CARD. -/
def Obligations.UnblockReclassResult : Prop :=
  ∀ (s : State) (card : Nat) (cls : Fin 8), s.OfficeOpen → 1 ≤ card → card ≤ 99999999 →
    exec (.unblock (leBytes 4 card)) s = .next (
      if s.purse? card = none then s.replied .unknownCard []
      else
        { s with purses := { s.purses with purses := s.purses.purses.map (fun q : Purse =>
          if q.card = card then { q with state := .active } else q) } }.replied .ok []) ∧
    exec (.reclass (leBytes 4 card ++ leBytes 1 cls.val)) s = .next (
      if s.purse? card = none then s.replied .unknownCard []
      else
        { s with purses := { s.purses with purses := s.purses.purses.map (fun q : Purse =>
          if q.card = card then { q with cls := cls } else q) } }.replied .ok [])

/-- R20: the checks of ADJUST in their order, and the balance, the float, the journal record and the reply of an accepted
one. -/
def Obligations.AdjustResult : Prop :=
  ∀ (s : State) (card : Nat) (amount : Int), s.OfficeOpen → 1 ≤ card → card ≤ 99999999 → -2147483648 ≤ amount →
    amount ≤ 2147483647 →
    exec (.adjust (leBytes 4 card ++ leBytesInt 4 amount)) s = .next (
      if amount = 0 ∨ amount < -999999 ∨ 999999 < amount then s.replied .range []
      else
        match s.purse? card with
        | none => s.replied .unknownCard []
        | some p =>
          if p.balance + amount < -20000 ∨ 999999 < p.balance + amount then s.replied .range []
          else if 1920 ≤ s.journal.records.length then s.replied .noRoom []
          else
            ({ s with purses := { s.purses with
                purses := s.purses.purses.map (fun q : Purse => if q.card = card then { q with balance := q.balance + amount } else q)
                floatTotal := s.purses.floatTotal + amount } }.withRecord 0 (.adjust card amount (p.balance + amount))).replied
              .ok (leBytes 4 s.journal.nextSeq ++ leBytesInt 4 (p.balance + amount)))

/-- R21, R22, R182: PURSE_READ answers the record of its card, or UNKNOWN_CARD, and PURSE_NEXT the record with the least card number above the
one given, or END; both change nothing but the port. The reply has the stored fields, the held amount and the marks of the two
stamps. That the other bits of the presence byte are 0 is the model's choice (assumption 28). -/
def Obligations.PurseReadNextResult : Prop :=
  ∀ (s : State) (card : Nat), s.OfficeOpen → s.PursesSound → card ≤ 99999999 →
    (∀ p ∈ s.purses.purses, p.card = card →
      exec (.purseRead (leBytes 4 card)) s = .next (s.replied .ok (s.purseLayout p))) ∧
    (1 ≤ card → (∀ p ∈ s.purses.purses, p.card ≠ card) →
      exec (.purseRead (leBytes 4 card)) s = .next (s.replied .unknownCard [])) ∧
    (∀ p ∈ s.purses.purses, card < p.card → (∀ q ∈ s.purses.purses, card < q.card → p.card ≤ q.card) →
      exec (.purseNext (leBytes 4 card)) s = .next (s.replied .ok (s.purseLayout p))) ∧
    ((∀ q ∈ s.purses.purses, q.card ≤ card) → exec (.purseNext (leBytes 4 card)) s = .next (s.replied .atEnd []))

/-- R8, R9: an accepted CLASS_SET rewrites the class record whole; a field outside its range leaves it, refused RANGE. -/
def Obligations.ClassSetResult : Prop :=
  ∀ (s : State) (cls : Fin 8) (rate cap dayLimit ceiling : Nat) (floor : Int), s.OfficeOpen → rate < 65536 → cap < 65536 →
    -32768 ≤ floor → floor ≤ 32767 → dayLimit < 16777216 → ceiling < 16777216 →
    exec (.classSet (leBytes 1 cls.val ++ leBytes 2 rate ++ leBytes 2 cap ++ leBytesInt 2 floor ++ leBytes 3 dayLimit
        ++ leBytes 3 ceiling)) s = .next (
      if rate ≤ 1000 ∧ cap ≤ 50000 ∧ -20000 ≤ floor ∧ floor ≤ 0 ∧ dayLimit ≤ 200000 ∧ ceiling ≤ 99999 then
        { s with purses := { s.purses with
          classes := s.purses.classes.set cls.val
            { rate := rate, cap := cap, floor := floor, dayLimit := dayLimit, holdCeiling := ceiling } } }.replied .ok []
      else s.replied .range [])

/-! ## The office link port (R167 to R174) -/

/-- R14, R172, R181: every office command on an open port is answered, with the link flags as they stood. One refused changes
nothing but the port and has an empty body, and a body of the wrong length, or with a field that cannot be a value of its kind,
is refused BAD_REQUEST in every state. -/
def Obligations.OfficeCommandAnswered : Prop :=
  ∀ (s : State) (c : Instr) (kind : Byte) (len : Nat) (body : List Byte), officeForm c = some (kind, len, body) →
    s.OfficeOpen →
    (body.length ≠ len ∨ badField c → exec c s = .next (s.replied .badRequest [])) ∧
    ∃ (t : State) (status : OfficeStatus) (reply : List Byte), exec c s = .next (t.replied status reply) ∧
      t.office.flags = s.office.flags ∧ t.pending = s.pending ∧ t.supply = s.supply ∧
      (status ≠ .ok → t = s ∧ reply = [])

/-- R153, R174: a command whose frame ends in the reply period is discarded with HANDSHAKE; a port that does not receive (no supply,
RESETn low, UNRATED, RESYNC) takes none; and in a start break none is taken, as a frame that ends there on a link rated meanwhile
meets the reply period (assumption 11). -/
def Obligations.CommandNotTaken : Prop :=
  ∀ (s : State) (c : Instr) (kind : Byte) (len : Nat) (body : List Byte), officeForm c = some (kind, len, body) →
    (s.OfficeHears → s.office.replyPeriod = true →
      exec c s = .next { s with office := { s.office with
        receiver := .seeking, flags := { s.office.flags with handshake := true } } }) ∧
    (¬ s.OfficeHears → exec c s = .next s) ∧
    (∀ answer, s.office.transmit = .startBreak answer → s.PortsSound →
      exec c s = .next s ∨ exec c s = .next { s with office := { s.office with
        receiver := .seeking, flags := { s.office.flags with handshake := true } } })

/-- R171, R172: the judgement of a whole office frame. A good frame of a known kind is its command, in every state of the port.
A body longer than 32 abandons the frame with BAD_CHECK and RESYNC, a wrong sum drops it with BAD_CHECK, and a good frame of a
kind outside the catalogue is answered BAD_REQUEST, or discarded with HANDSHAKE in the reply period. That the row stands for the
whole frame in SEEKING too, and that a command's own row is the same event, is the model's choice (assumption 10), and so is the
judgement of a body longer than 32 at the end of the frame (assumption 18). -/
def Obligations.OfficeFrameJudged : Prop :=
  ∀ (s : State) (kind : Byte) (body : List Byte) (check : Byte),
    (body.length ≤ 32 → officeSumZero kind body check → ∀ (c : Instr) (len : Nat), officeForm c = some (kind, len, body) →
      exec (.officeFrameEnd kind body check) s = exec c s) ∧
    (s.OfficeHears →
      (32 < body.length → exec (.officeFrameEnd kind body check) s = .next { s with office := { s.office with
        receiver := .resync, flags := { s.office.flags with badCheck := true } } }) ∧
      (body.length ≤ 32 → ¬ officeSumZero kind body check →
        exec (.officeFrameEnd kind body check) s = .next { s with office := { s.office with
          receiver := .seeking, flags := { s.office.flags with badCheck := true } } }) ∧
      (body.length ≤ 32 → officeSumZero kind body check → kind.toNat = 0 ∨ 34 < kind.toNat →
        exec (.officeFrameEnd kind body check) s = .next (
          if s.office.replyPeriod = true then
            { s with office := { s.office with receiver := .seeking, flags := { s.office.flags with handshake := true } } }
          else s.replied .badRequest [])))

/-- R168, R170, R171: the events of office reception and what each sets: a low that reaches 10 bit times on a RATED link and
20 bit times of high in RESYNC lead to SEEKING with no flag set. That the low leads there from RESYNC too is inferred
(assumption 24), and that FRAMING_ERROR and OFFICE_LENGTH_ABANDON are taken in SEEKING too, for a frame begun in the same row, is
the model's choice (assumption 10), and so is that FRAMING_ERROR stands for a low that has ended short of a break (assumption 33). -/
def Obligations.OfficeReceptionEvents : Prop :=
  ∀ s : State,
    (s.OfficeHears →
      (s.office.receiver = .seeking →
        exec .officeFrameStart s = .next { s with office := { s.office with receiver := .receiving } }) ∧
      exec .framingError s = .next { s with office := { s.office with
        receiver := .resync, flags := { s.office.flags with badCheck := true } } } ∧
      exec .officeLengthAbandon s = .next { s with office := { s.office with
        receiver := .resync, flags := { s.office.flags with badCheck := true } } } ∧
      (s.office.receiver = .receiving →
        exec .officeFrameTimeout s = .next { s with office := { s.office with
          receiver := .seeking, flags := { s.office.flags with timeout := true } } })) ∧
    (s.Powered →
      (s.office.bitTime ≠ none →
        exec .ratedBreakDetect s = .next { s with office := { s.office with receiver := .seeking } }) ∧
      (s.office.receiver = .resync → exec .resyncEnd s = .next { s with office := { s.office with receiver := .seeking } }))

/-- R168, R169: the rising edge of a low of so many periods, in every state of the port. A low too short is no break. A break
gives the bit time nearest to a tenth of it, a half rounded up; within 69 to 1,667 it rates the link and begins the answering
break, with the flags of an abandoned reply set again; outside, BAD_RATE is set and the rate stays. That the answering break
waits for the end of a start break is the model's choice (assumption 11), and that a break leads to SEEKING from RESYNC too is
inferred (assumption 24). -/
def Obligations.BreakDecidesRate : Prop :=
  ∀ (s : State) (periods t : Nat), s.Powered →
    10 * t ≤ periods + 5 → periods + 5 < 10 * t + 10 →
    exec (.breakRisingEdge periods) s = .next (
      if periods < (match s.office.bitTime with | none => 685 | some old => 10 * old) then s
      else if 69 ≤ t ∧ t ≤ 1667 then
        { s with office := { s.office with
          bitTime := some t
          receiver := .seeking
          transmit := match s.office.transmit with
            | .startBreak _ => .startBreak true
            | _ => .answeringBreak
          flags := match s.office.transmit with
            | .reply r => { badRate := s.office.flags.badRate || r.flags.badRate
                            timeout := s.office.flags.timeout || r.flags.timeout
                            badCheck := s.office.flags.badCheck || r.flags.badCheck
                            handshake := s.office.flags.handshake || r.flags.handshake }
            | _ => s.office.flags } }
      else { s with office := { s.office with receiver := .seeking, flags := { s.office.flags with badRate := true } } })

/-- R153, R169, R173: the reply period ends with the reply or the answering break, unless a RESTART waits. The start break ends,
and the answering break of a break accepted meanwhile begins, which is the model's choice (assumption 11). -/
def Obligations.OfficeSendingEnds : Prop :=
  ∀ (s : State) (r : OfficeReply), s.Powered →
    (s.office.transmit = .reply r → s.office.restartPending = false →
      exec .officeReplyEnd s = .next { s with office := { s.office with transmit := .idle } }) ∧
    (s.office.transmit = .answeringBreak → s.office.restartPending = false →
      exec .answeringBreakEnd s = .next { s with office := { s.office with transmit := .idle } }) ∧
    (∀ answer, s.office.transmit = .startBreak answer →
      exec .startBreakEnd s = .next { s with office := { s.office with
        transmit := if answer then .answeringBreak else .idle } })

/-! ## The credit unit (R106, R110 to R119) -/

/-- R110, R111: the checks of CREDIT in their order, and the credit, its record and the reply of an accepted one. -/
def Obligations.CreditResult : Prop :=
  ∀ (s : State) (card amount : Nat), s.OfficeOpen → 1 ≤ card → card ≤ 99999999 → amount < 16777216 →
    exec (.credit (leBytes 4 card ++ leBytes 3 amount)) s = .next (
      if s.engine.state = .unset then s.replied .wrongState []
      else if amount < 1 ∨ 200000 < amount then s.replied .range []
      else
        match s.purse? card with
        | none => s.replied .unknownCard []
        | some p =>
          if 999999 < p.balance + amount then s.replied .purseFull []
          else if 1920 ≤ s.journal.records.length then s.replied .noRoom []
          else
            (s.credited card amount 0 (.credit card amount (p.balance + amount))).replied .ok
              (leBytesInt 4 (p.balance + amount) ++ leBytes 4 s.journal.nextSeq))

/-- R113, R114: the checks of BATCH_OPEN in their order, and the empty open batch an accepted one leaves; the checks of BATCH_ITEM
in their order, and the item staged with its index and the staged sum in the reply. -/
def Obligations.BatchOpenAndItemResult : Prop :=
  ∀ s : State, s.OfficeOpen →
    (∀ batchId count total : Nat, 1 ≤ batchId → batchId ≤ 65535 → count < 65536 → total < 4294967296 →
      exec (.batchOpen (leBytes 2 batchId ++ leBytes 2 count ++ leBytes 4 total)) s = .next (
        if count < 1 ∨ 512 < count then s.replied .range []
        else if total < count ∨ 200000 * count < total then s.replied .range []
        else if s.credit.state = .opened then s.replied .batchState []
        else
          { s with credit := { state := .opened, batchId := batchId, declaredCount := count, declaredTotal := total,
                               staging := [], stagedSum := 0, results := [],
                               summary := { appliedCount := 0, appliedTotal := 0, rejectedCount := 0, firstSeq := 0,
                                            lastSeq := 0 } } }.replied .ok [])) ∧
    (∀ card amount : Nat, 1 ≤ card → card ≤ 99999999 → amount < 16777216 →
      exec (.batchItem (leBytes 4 card ++ leBytes 3 amount)) s = .next (
        if amount < 1 ∨ 200000 < amount then s.replied .range []
        else if s.credit.state ≠ .opened then s.replied .batchState []
        else if s.credit.declaredCount ≤ s.credit.staging.length then s.replied .countExceeded []
        else
          { s with credit := { s.credit with
            staging := s.credit.staging ++ [({ card := card, amount := amount } : BatchItem)]
            stagedSum := s.credit.stagedSum + amount } }.replied .ok
              (leBytes 2 (s.credit.staging.length + 1) ++ leBytes 4 (s.credit.stagedSum + amount))))

/-- R115, R116, R117: the checks of BATCH_CLOSE in their order; an accepted one applies or rejects each item in list order,
writes the result list and the summary, enters CLOSED and answers the summary. -/
def Obligations.BatchCloseResult : Prop :=
  ∀ s : State, s.OfficeOpen →
    exec (.batchClose []) s = .next (
      if s.credit.state ≠ .opened then s.replied .batchState []
      else if s.engine.state = .unset then s.replied .wrongState []
      else if s.credit.staging.length ≠ s.credit.declaredCount ∨ s.credit.stagedSum ≠ s.credit.declaredTotal then
        s.replied .mismatch []
      else
        let verdicts := (s.closeVerdicts s.credit.staging).1
        let t := (s.closeVerdicts s.credit.staging).2
        let applied := verdicts.count none
        let m : BatchSummary :=
          { appliedCount := applied
            appliedTotal := appliedAmounts s.credit.staging verdicts
            rejectedCount := verdicts.length - applied
            firstSeq := if applied = 0 then 0 else s.journal.nextSeq
            lastSeq := if applied = 0 then 0 else (t.journal.records.getLast?.map Record.seq).getD 0 }
        { t with credit := { s.credit with
          state := .closed, results := rejectedItems s.credit.staging verdicts, summary := m } }.replied .ok
            (leBytes 2 m.appliedCount ++ leBytes 4 m.appliedTotal ++ leBytes 2 m.rejectedCount ++ leBytes 4 m.firstSeq
              ++ leBytes 4 m.lastSeq))

/-- R118, R119: BATCH_ABORT of an OPEN batch enters NONE and answers the number of items; BATCH_RESULT answers the batch page
for index 0, the entry of an index of a CLOSED batch, and END otherwise. -/
def Obligations.BatchAbortAndResult : Prop :=
  ∀ (s : State) (index : Nat), s.OfficeOpen → index ≤ 512 →
    exec (.batchAbort []) s = .next (
      if s.credit.state = .opened then
        { s with credit := { s.credit with
          state := .none, batchId := 0, declaredCount := 0, declaredTotal := 0, staging := [], stagedSum := 0 } }.replied .ok
            (leBytes 2 s.credit.staging.length)
      else s.replied .batchState []) ∧
    exec (.batchResult (leBytes 2 index)) s = .next (
      if index = 0 then
        s.replied .ok (leBytes 1 (match s.credit.state with | .none => 0 | .opened => 1 | .closed => 2)
          ++ leBytes 2 s.credit.batchId ++ leBytes 2 s.credit.declaredCount ++ leBytes 4 s.credit.declaredTotal
          ++ leBytes 2 s.credit.staging.length ++ leBytes 4 s.credit.stagedSum
          ++ leBytes 2 s.credit.summary.appliedCount ++ leBytes 4 s.credit.summary.appliedTotal
          ++ leBytes 2 s.credit.summary.rejectedCount ++ leBytes 4 s.credit.summary.firstSeq
          ++ leBytes 4 s.credit.summary.lastSeq)
      else
        match (if s.credit.state = .closed then s.credit.results else [])[index - 1]? with
        | none => s.replied .atEnd []
        | some r => s.replied .ok (leBytes 2 r.index ++ leBytes 4 r.card
            ++ leBytes 1 (match r.reason with | .unknownCard => 3 | .purseFull => 7 | .noRoom => 8)))

/-! ## The time unit (R28, R34 to R38) -/

/-- R28, R34: CLOCK_SET and ROLLOVER_SET, refused WRONG_STATE while RUNNING (ROLLOVER_SET only for another minute), and
otherwise writing their values and nothing else. -/
def Obligations.ClockRolloverSetResult : Prop :=
  ∀ (s : State) (day minute second : Nat) (flag : Bool), s.OfficeOpen → day ≤ 65535 → minute ≤ 1439 → second ≤ 59 →
    exec (.clockSet (leBytes 2 day ++ leBytes 2 minute ++ leBytes 1 second)) s = .next (
      if s.engine.state = .running then s.replied .wrongState []
      else { s with time := { s.time with day := day, minute := minute, second := second, valid := true } }.replied .ok []) ∧
    exec (.rolloverSet (leBytes 2 minute ++ leBytes 1 (if flag then 1 else 0))) s = .next (
      if minute ≠ s.time.rolloverMinute ∧ s.engine.state = .running then s.replied .wrongState []
      else { s with time := { s.time with rolloverMinute := minute, rolloverFreeze := flag } }.replied .ok [])

/-- R36, R37: WINDOW_SET replaces the table when it is good and the engine is not RUNNING: the used entries have start below
end and end at most 1,440, and no two share a day minute; an unused entry is stored with 0, 0 and off. -/
def Obligations.WindowSetResult : Prop :=
  ∀ (s : State) (ws : Vector Window 6), s.OfficeOpen → (∀ w ∈ ws.toList, w.start < 2048 ∧ w.stop < 2048) →
    (s.engine.state = .running → exec (.windowSet (windowsBody ws.toList)) s = .next (s.replied .wrongState [])) ∧
    (s.engine.state ≠ .running →
      ((∀ w ∈ ws.toList, w.used = true → w.start < w.stop ∧ w.stop ≤ 1440) ∧
        ws.toList.Pairwise (fun v w => v.used = true → w.used = true →
          ∀ m, ¬ (v.start ≤ m ∧ m < v.stop ∧ w.start ≤ m ∧ m < w.stop)) →
        ∃ kept : Vector Window 6, (∀ k : Fin 6, kept[k] = if ws[k].used then ws[k]
            else { used := false, start := 0, stop := 0, subsidised := false }) ∧
          exec (.windowSet (windowsBody ws.toList)) s =
            .next ({ s with time := { s.time with windows := kept } }.replied .ok [])) ∧
      (¬ ((∀ w ∈ ws.toList, w.used = true → w.start < w.stop ∧ w.stop ≤ 1440) ∧
        ws.toList.Pairwise (fun v w => v.used = true → w.used = true →
          ∀ m, ¬ (v.start ≤ m ∧ m < v.stop ∧ w.start ≤ m ∧ m < w.stop))) →
        exec (.windowSet (windowsBody ws.toList)) s = .next (s.replied .badTable [])))

/-- R35, R38: the day minute counts from the rollover minute, and the window found is the one used entry that covers it. -/
def Obligations.DayMinuteAndWindow : Prop :=
  ∀ s : State, s.ClockEngineSound →
    (s.time.dayMinute : Int) = ((s.time.minute : Int) - s.time.rolloverMinute + 1440) % 1440 ∧
    (s.time.dayMinute = 0 ↔ s.time.minute = s.time.rolloverMinute) ∧
    (∀ (k : Fin 6) (b : Bool), s.time.windowFound = some (k.val, b) ↔
      s.time.windows[k].used = true ∧ s.time.windows[k].start ≤ s.time.dayMinute ∧
        s.time.dayMinute < s.time.windows[k].stop ∧ s.time.windows[k].subsidised = b) ∧
    (s.time.windowFound = none ↔ ∀ k : Fin 6, ¬ (s.time.windows[k].used = true ∧
      s.time.windows[k].start ≤ s.time.dayMinute ∧ s.time.dayMinute < s.time.windows[k].stop))

/-! ## The station table (R61, R62, R65) -/

/-- R61, R62: an accepted STATION_SET writes the entry; for kind TILL it touches no hold, for NONE and KIOSK it releases every
hold of the station and makes its last-expired card absent, answering how many it released. -/
def Obligations.StationSetResult : Prop :=
  ∀ (s : State) (station quota lifetime : Nat) (kind : StationKind), s.OfficeOpen → s.PursesSound → s.HoldsSound →
    1 ≤ station → station ≤ 14 → quota < 256 → lifetime < 65536 →
    exec (.stationSet (leBytes 1 station ++ leBytes 1 (match kind with | .none => 0 | .till => 1 | .kiosk => 2)
        ++ leBytes 1 quota ++ leBytes 2 lifetime)) s = .next (
      if 8 < quota ∨ lifetime < 30 ∨ 900 < lifetime then s.replied .range []
      else
        let stations := s.holds.stations.setIfInBounds (station - 1) { kind := kind, quota := quota, lifetime := lifetime }
        if kind = .till then { s with holds := { s.holds with stations := stations } }.replied .ok (leBytes 1 0)
        else
          { s with
            purses := { s.purses with purses := s.purses.purses.map (fun q : Purse =>
              if q.holdStation = some station then { q with holdStation := none } else q) }
            holds := { stations := stations
                       holds := s.holds.holds.filter (fun h : Hold => decide (h.station ≠ station))
                       lastExpired := s.holds.lastExpired.setIfInBounds (station - 1) none } }.replied .ok
            (leBytes 1 (s.holds.holds.filter (fun h : Hold => decide (h.station = station))).length))

/-! ## The settlement journal (R124 to R136) -/

/-- R182: the 32 bytes of a record as JNL_NEXT returns it, the last one making the sum 0 modulo 256. -/
def Obligations.RecordLayout : Prop :=
  ∀ r : Record, r.bytes.length = 32 ∧ (r.bytes.map BitVec.toNat).sum % 256 = 0 ∧
    r.bytes.take 10 = leBytes 4 r.seq ++ leBytes 1 (match r.body with
      | .enrol .. => 1 | .debit .. => 2 | .credit .. => 3 | .batchCredit .. => 4 | .cash .. => 5 | .adjust .. => 6
      | .retire .. => 7 | .dayMark .. => 8) ++ leBytes 1 r.source ++ leBytes 2 r.minute ++ leBytes 2 r.day ∧
    (r.bytes.drop 10).take 21 = match r.body with
      | .enrol card amount after | .credit card amount after | .cash card amount after | .adjust card amount after
      | .retire card amount after =>
        leBytes 4 card ++ leBytesInt 4 amount ++ leBytesInt 4 after ++ leBytes 3 0 ++ leBytes 3 0 ++ leBytes 1 255
          ++ leBytes 2 0
      | .batchCredit card amount after batchId =>
        leBytes 4 card ++ leBytesInt 4 amount ++ leBytesInt 4 after ++ leBytes 3 0 ++ leBytes 3 0 ++ leBytes 1 255
          ++ leBytes 2 batchId
      | .debit card gross subsidy amount after window =>
        leBytes 4 card ++ leBytesInt 4 amount ++ leBytesInt 4 after ++ leBytes 3 gross ++ leBytes 3 subsidy
          ++ leBytes 1 (window.getD 255) ++ leBytes 2 0
      | .dayMark first last float debit subsidy credit =>
        leBytes 2 first ++ leBytes 2 last ++ leBytesInt 5 float ++ leBytes 4 debit ++ leBytes 4 subsidy ++ leBytes 4 credit

/-- R132, R134: JNL_NEXT returns the record at the cursor and advances the cursor, or answers EMPTY; JNL_REWIND sets the cursor
to the oldest record, or to the next sequence number of an empty journal. Neither removes a record. -/
def Obligations.JnlNextRewindResult : Prop :=
  ∀ s : State, s.OfficeOpen → s.JournalSound →
    (∀ r ∈ s.journal.records, r.seq = s.journal.cursor →
      exec (.jnlNext []) s = .next ({ s with journal := { s.journal with
        cursor := if s.journal.cursor = 4294967295 then 1 else s.journal.cursor + 1 } }.replied .ok r.bytes)) ∧
    (s.journal.cursor = s.journal.nextSeq → exec (.jnlNext []) s = .next (s.replied .empty [])) ∧
    exec (.jnlRewind []) s = .next (match s.journal.records with
      | [] => { s with journal := { s.journal with cursor := s.journal.nextSeq } }.replied .ok (leBytes 4 0 ++ leBytes 2 0)
      | r :: rest => { s with journal := { s.journal with cursor := r.seq } }.replied .ok
          (leBytes 4 r.seq ++ leBytes 2 (rest.length + 1)))

/-- R127, R133, R139: a JNL_CONFIRM of a record that is held and read removes it and every older one; below the high-water mark
the timer is loaded again and the conditions end. One of a record not held or not read is refused NOT_READ. -/
def Obligations.JnlConfirmResult : Prop :=
  ∀ (s : State) (seq : Nat), s.OfficeOpen → s.JournalSound → 1 ≤ seq → seq ≤ 4294967295 →
    (∀ (older newer : List Record) (r : Record), s.journal.records = older ++ r :: newer → r.seq = seq →
      s.journal.cursor ∈ newer.map Record.seq ++ [s.journal.nextSeq] →
      exec (.jnlConfirm (leBytes 4 seq)) s = .next (
        { s with
          journal := { s.journal with
            records := newer
            timer := if newer.length < s.journal.highWater then s.journal.reload else s.journal.timer }
          attention := ((s.attention.afterEnd .overdue
              (s.journal.timer = 0 ∧ newer.length < s.journal.highWater)).afterEnd .journalHigh
              (s.journal.highWater ≤ s.journal.records.length ∧ newer.length < s.journal.highWater)).afterEnd .journalFull
              (2047 ≤ s.journal.records.length ∧ newer.length < 2047) }.replied .ok
          (leBytes 2 (older.length + 1) ++ leBytes 2 newer.length
            ++ leBytes 4 ((newer.head?.map Record.seq).getD 0)))) ∧
    ((∀ r ∈ s.journal.records, r.seq ≠ seq) → exec (.jnlConfirm (leBytes 4 seq)) s = .next (s.replied .notRead [])) ∧
    (∀ (older newer : List Record) (r : Record), s.journal.records = older ++ r :: newer → r.seq = seq →
      s.journal.cursor ∈ older.map Record.seq ++ [r.seq] →
      exec (.jnlConfirm (leBytes 4 seq)) s = .next (s.replied .notRead []))

/-- R127, R136: an accepted JOURNAL_SET writes both settings and acts on the timer and the conditions by where the occupancy
stands against the new mark and the old one. -/
def Obligations.JournalSetResult : Prop :=
  ∀ (s : State) (mark reload : Nat), s.OfficeOpen → s.JournalSound → mark < 65536 → reload < 256 →
    exec (.journalSet (leBytes 2 mark ++ leBytes 1 reload)) s = .next (
      if mark < 256 ∨ 1920 < mark ∨ reload < 5 ∨ 120 < reload then s.replied .range []
      else
        let n := s.journal.records.length
        { s with
          journal := { s.journal with
            highWater := mark
            reload := reload
            timer := if n < mark ∨ n < s.journal.highWater then reload else min s.journal.timer reload }
          attention := if s.journal.highWater ≤ n then
              (s.attention.afterEnd .overdue (s.journal.timer = 0 ∧ n < mark)).afterEnd .journalHigh (n < mark)
            else if mark ≤ n then s.attention.conditionBegins .journalHigh
            else s.attention }.replied .ok [])

/-! ## Engine control (R146 to R148, R152) -/

/-- R146, R147, R148, R152: GO takes an UNSET engine with a valid clock to RUNNING, THAW a FROZEN one, and FREEZE any but an
UNSET one to FROZEN, keeping the reason of a freeze in progress; each is refused WRONG_STATE otherwise. RESTART is accepted in
every engine state and only makes the warm start pending. -/
def Obligations.EngineCommandsResult : Prop :=
  ∀ (s : State) (limit : Nat), s.OfficeOpen → limit < 256 →
    exec (.go []) s = .next (
      if s.engine.state = .unset ∧ s.time.valid = true then
        { s with engine := { s.engine with state := .running } }.replied .ok []
      else s.replied .wrongState []) ∧
    exec (.thaw []) s = .next (
      if s.engine.state = .frozen then
        { s with engine := { s.engine with state := .running, reason := none, timer := 0 } }.replied .ok
          (leBytes 1 (match s.engine.reason with | none => 0 | some .office => 1 | some .rollover => 2))
      else s.replied .wrongState []) ∧
    exec (.freeze (leBytes 1 limit)) s = .next (
      if 15 < limit then s.replied .range []
      else if s.engine.state = .unset then s.replied .wrongState []
      else
        let kept := if limit = 0 then s.engine.limit else limit
        let reason := if s.engine.state = .frozen then s.engine.reason else some .office
        { s with engine := { s.engine with state := .frozen, limit := kept, timer := kept * 60, reason := reason } }.replied .ok
          (leBytes 1 (match reason with | none => 0 | some .office => 1 | some .rollover => 2) ++ leBytes 2 (kept * 60))) ∧
    exec (.restart []) s = .next ({ s with office := { s.office with restartPending := true } }.replied .ok [])

/-! ## The attention unit (R175 to R179) -/

/-- R175, R176, R138, R139: what the beginning and the end of a level condition do to its flags, when ATTN and OVDn are
asserted. -/
def Obligations.LevelCausesAndLines : Prop :=
  (∀ (a : AttentionUnit) (c d : Cause),
    (a.conditionBegins c).condition.get d = (if d = c then true else a.condition.get d) ∧
    (a.conditionBegins c).pending.get d = (if d = c then true else a.pending.get d) ∧
    (a.conditionBegins c).acknowledged.get d = (if d = c then false else a.acknowledged.get d) ∧
    (a.conditionEnds c).condition.get d = (if d = c then false else a.condition.get d) ∧
    (a.conditionEnds c).pending.get d =
      (if d = c then a.pending.get d && !a.acknowledged.get d else a.pending.get d) ∧
    (a.conditionEnds c).acknowledged.get d = (if d = c then false else a.acknowledged.get d)) ∧
  (∀ s : State, (s.attnAsserted = true ↔ s.Powered ∧ ∃ c : Cause, causeEligible s.attention c) ∧
    (s.ovdnAsserted = true ↔ s.Powered ∧ s.journal.timer = 0))

/-- R176, R177, R178: ATTN_TAKE returns the eligible cause with the highest number with its detail, clears it as its type gives
and sets the taken state; with no eligible cause it answers NONE and changes nothing.
The day and minute of an empty freeze change record are free values (assumption 5), its reason byte 0 is inferred (assumption 25),
and the bits 0 in the bytes of latched entries and of fault kinds that name none are the model's choice (assumption 28). -/
def Obligations.AttnTakeResult : Prop :=
  ∃ emptyDay emptyMinute : Nat, ∀ s : State, s.OfficeOpen →
    ((∀ c : Cause, ¬ causeEligible s.attention c) → exec (.attnTake []) s = .next (s.replied .ok (leBytes 1 255))) ∧
    (∀ c : Cause, causeEligible s.attention c →
      (∀ d : Cause, causeEligible s.attention d → d.number ≤ c.number) →
      exec (.attnTake []) s = .next (
        let level (held : Bool) (t : AttentionUnit) : State :=
          { s with attention := { t with taken := true } }.replied .ok
            (leBytes 1 c.number ++ leBytes 1 (if held then 1 else 0) ++ leBytes 2 s.journal.records.length
              ++ leBytes 2 s.journal.highWater)
        let a := s.attention
        match c with
        | .overdue => level a.condition.overdue
            (if a.condition.overdue then { a with acknowledged := { a.acknowledged with overdue := true } }
              else { a with pending := { a.pending with overdue := false } })
        | .journalFull => level a.condition.journalFull
            (if a.condition.journalFull then { a with acknowledged := { a.acknowledged with journalFull := true } }
              else { a with pending := { a.pending with journalFull := false } })
        | .journalHigh => level a.condition.journalHigh
            (if a.condition.journalHigh then { a with acknowledged := { a.acknowledged with journalHigh := true } }
              else { a with pending := { a.pending with journalHigh := false } })
        | .watchHit =>
          { s with
            lane := { s.lane with watch := s.lane.watch.map (fun w : WatchEntry => { w with latch := false }) }
            attention := { a with pending := { a.pending with watchHit := false }, taken := true } }.replied .ok
            (leBytes 1 4 ++ leBytes 1 ((if s.lane.watch[0].latch then 1 else 0) + (if s.lane.watch[1].latch then 2 else 0)
                + (if s.lane.watch[2].latch then 4 else 0) + (if s.lane.watch[3].latch then 8 else 0))
              ++ (s.lane.watch.toList.filter WatchEntry.latch).flatMap (fun w : WatchEntry => leBytes 4 w.card
                ++ leBytes 1 w.hits ++ leBytes 1 w.lastStation
                ++ leBytes 1 (match w.lastKind with | none => 0 | some k => k.code.toNat)))
        | .blockedSeen =>
          { s with
            lane := { s.lane with blockedSeen := { s.lane.blockedSeen with count := 0 } }
            attention := { a with pending := { a.pending with blockedSeen := false }, taken := true } }.replied .ok
            (leBytes 1 3 ++ leBytes 4 s.lane.blockedSeen.card ++ leBytes 1 s.lane.blockedSeen.station
              ++ leBytes 2 s.lane.blockedSeen.minute ++ leBytes 1 s.lane.blockedSeen.count)
        | .freezeChange =>
          { s with
            engine := { s.engine with changeCount := 0 }
            attention := { a with pending := { a.pending with freezeChange := false }, taken := true } }.replied .ok
            (leBytes 1 2 ++ (match s.engine.change with
                | none => leBytes 1 0 ++ leBytes 1 0 ++ leBytes 2 emptyDay ++ leBytes 2 emptyMinute
                | some r => leBytes 1 (match r.change with | .entry => 1 | .exit => 2)
                    ++ leBytes 1 (match r.reason with | .rollover => 2 | .limit => 3) ++ leBytes 2 r.day ++ leBytes 2 r.minute)
              ++ leBytes 1 s.engine.changeCount)
        | .laneBusFault =>
          { s with
            port := { s.port with faults := { parity := false, badCheck := false, timeout := false, unknownStation := false,
                                              replyLoss := false } }
            attention := { a with pending := { a.pending with laneBusFault := false }, taken := true } }.replied .ok
            (leBytes 1 1 ++ leBytes 1 ((if s.port.faults.parity then 1 else 0) + (if s.port.faults.badCheck then 2 else 0)
              + (if s.port.faults.timeout then 4 else 0) + (if s.port.faults.unknownStation then 8 else 0)
              + (if s.port.faults.replyLoss then 16 else 0)))
        | .rollover =>
          { s with attention := { a with pending := { a.pending with rollover := false }, taken := true } }.replied .ok
            (leBytes 1 0 ++ leBytes 2 s.time.day)))

/-- R99, R156, R164, R179: WATCH_SET, LANE_RATE_SET, STATUS_CLEAR, ATTN_DONE and ATTN_ENABLE write their settings and nothing
else. That a LANE_RATE_SET of the rate in force stores no pending rate is assumption 14, and bits 6 and 7 of the enables in the
ATTN_ENABLE reply are 0 by assumption 28. -/
def Obligations.SettingsResult : Prop :=
  ∀ (s : State) (entry : Fin 4) (card code : Nat) (mask : BitVec 6), s.OfficeOpen → card ≤ 99999999 → code < 65536 →
    exec (.watchSet (leBytes 1 entry.val ++ leBytes 4 card)) s = .next ({ s with lane := { s.lane with
      watch := s.lane.watch.set entry.val { card := card, latch := false, hits := 0, lastStation := 0, lastKind := none } }
      }.replied .ok []) ∧
    exec (.laneRateSet (leBytes 2 code)) s = .next (
      if code = 96 ∨ code = 192 ∨ code = 384 ∨ code = 576 then
        if s.port.receiver = .idle ∨ s.port.rate = 100 * code then
          { s with port := { s.port with rate := 100 * code, pendingRate := none } }.replied .ok []
        else { s with port := { s.port with pendingRate := some (100 * code) } }.replied .ok []
      else s.replied .range []) ∧
    exec (.statusClear []) s = .next (
      { s with port := { s.port with counters := { goodFrames := 0, parityRefusals := 0, badChecks := 0, timeouts := 0,
                                                   unknownStations := 0, replyLosses := 0 } } }.replied .ok
        (leBytes 2 s.port.counters.goodFrames ++ leBytes 2 s.port.counters.parityRefusals
          ++ leBytes 2 s.port.counters.badChecks ++ leBytes 2 s.port.counters.timeouts
          ++ leBytes 2 s.port.counters.unknownStations ++ leBytes 2 s.port.counters.replyLosses)) ∧
    exec (.attnDone []) s = .next ({ s with attention := { s.attention with taken := false } }.replied .ok []) ∧
    exec (.attnEnable (leBytes 1 mask.toNat)) s = .next (
      { s with attention := { s.attention with enabled :=
        { rollover := mask.getLsbD 0, laneBusFault := mask.getLsbD 1, freezeChange := mask.getLsbD 2,
          blockedSeen := mask.getLsbD 3, watchHit := mask.getLsbD 4, journalHigh := mask.getLsbD 5, journalFull := false,
          overdue := false } } }.replied .ok (leBytes 1 mask.toNat))

/-- R164, R183: STATUS answers the part of the page it names and changes nothing but the port. The receiver byte while the restart
mark is sent, the day and minute of an empty freeze change record, and the rounding of a rate at a tie are free values
(assumptions 3, 4, 5): the statement holds for every value of them. The reason byte 0 of an empty freeze change record is inferred
(assumption 25). That page 7 shows the office receiver in SEEKING (assumption 27), and that bits which name nothing are 0
(assumption 28), is the model's choice. -/
def Obligations.StatusPages : Prop :=
  ∃ emptyDay emptyMinute markCode : Nat, ∀ (s : State) (part : Nat), s.OfficeOpen →
    let flags (f : CauseFlags) : Nat := (if f.rollover then 1 else 0) + (if f.laneBusFault then 2 else 0)
      + (if f.freezeChange then 4 else 0) + (if f.blockedSeen then 8 else 0) + (if f.watchHit then 16 else 0)
      + (if f.journalHigh then 32 else 0) + (if f.journalFull then 64 else 0) + (if f.overdue then 128 else 0)
    exec (.status (leBytes 1 0 ++ leBytes 1 0)) s = .next (s.replied .ok (leBytesInt 5 s.purses.floatTotal
      ++ leBytes 2 s.purses.purses.length ++ leBytes 4 s.purses.debitTotal ++ leBytes 4 s.purses.subsidyTotal
      ++ leBytes 4 s.purses.creditTotal ++ leBytes 2 s.purses.firstDay)) ∧
    exec (.status (leBytes 1 1 ++ leBytes 1 0)) s = .next (s.replied .ok (leBytes 2 s.time.day ++ leBytes 2 s.time.minute
      ++ leBytes 1 s.time.second ++ leBytes 1 ((if s.time.valid then 1 else 0) + if s.time.rolloverFreeze then 2 else 0)
      ++ leBytes 2 s.time.rolloverMinute ++ leBytes 2 s.time.dayMinute
      ++ leBytes 1 ((s.time.windowFound.map Prod.fst).getD 255) ++ windowsBody s.time.windows.toList)) ∧
    (part ≤ 4 → exec (.status (leBytes 1 2 ++ leBytes 1 part)) s = .next (s.replied .ok (leBytes 1 s.holds.holds.length
      ++ (if part = 4 then [13, 14] else [3 * part + 1, 3 * part + 2, 3 * part + 3]).flatMap (fun station : Nat =>
        leBytes 1 (match (s.station station).kind with | .none => 0 | .till => 1 | .kiosk => 2)
          ++ leBytes 1 (s.station station).quota ++ leBytes 2 (s.station station).lifetime
          ++ leBytes 1 (s.queue station).length ++ leBytes 4 ((s.lastExpired station).getD 0))))) ∧
    exec (.status (leBytes 1 3 ++ leBytes 1 0)) s = .next (s.replied .ok (s.lane.watch.toList.flatMap (fun w : WatchEntry =>
      leBytes 4 w.card ++ leBytes 1 ((if w.latch then 128 else 0) + match w.lastKind with | none => 0 | some k => k.code.toNat)
        ++ leBytes 1 w.hits ++ leBytes 1 w.lastStation))) ∧
    exec (.status (leBytes 1 3 ++ leBytes 1 1)) s = .next (s.replied .ok (leBytes 4 s.lane.blockedSeen.card
      ++ leBytes 1 s.lane.blockedSeen.station ++ leBytes 2 s.lane.blockedSeen.minute ++ leBytes 1 s.lane.blockedSeen.count)) ∧
    exec (.status (leBytes 1 4 ++ leBytes 1 0)) s = .next (s.replied .ok (leBytes 2 s.journal.records.length
      ++ leBytes 4 ((s.journal.records.head?.map Record.seq).getD 0)
      ++ leBytes 4 ((s.journal.records.getLast?.map Record.seq).getD 0) ++ leBytes 4 s.journal.nextSeq
      ++ leBytes 4 s.journal.cursor ++ leBytes 2 s.journal.readCount ++ leBytes 2 s.journal.highWater
      ++ leBytes 1 s.journal.reload ++ leBytes 1 s.journal.timer ++ leBytes 1 (if s.journal.timer = 0 then 1 else 0))) ∧
    exec (.status (leBytes 1 5 ++ leBytes 1 0)) s = .next (s.replied .ok (
        leBytes 1 (match s.engine.state with | .unset => 0 | .running => 1 | .frozen => 2)
          ++ leBytes 1 (match s.engine.reason with | none => 0 | some .office => 1 | some .rollover => 2)
          ++ leBytes 1 s.engine.limit ++ leBytes 2 s.engine.timer
          ++ (match s.engine.change with
            | none => leBytes 1 0 ++ leBytes 1 0 ++ leBytes 2 emptyDay ++ leBytes 2 emptyMinute
            | some r => leBytes 1 (match r.change with | .entry => 1 | .exit => 2)
                ++ leBytes 1 (match r.reason with | .rollover => 2 | .limit => 3) ++ leBytes 2 r.day ++ leBytes 2 r.minute)
          ++ leBytes 1 s.engine.changeCount
          ++ leBytes 1 (match s.engine.startCause with | .reset => 0 | .power => 1 | .restart => 2 | .cold => 3))) ∧
    exec (.status (leBytes 1 6 ++ leBytes 1 0)) s = .next (s.replied .ok (
        leBytes 2 s.port.counters.goodFrames ++ leBytes 2 s.port.counters.parityRefusals
          ++ leBytes 2 s.port.counters.badChecks ++ leBytes 2 s.port.counters.timeouts
          ++ leBytes 2 s.port.counters.unknownStations ++ leBytes 2 s.port.counters.replyLosses
          ++ leBytes 2 (s.port.rate / 100) ++ leBytes 2 (s.port.pendingRate.getD 0 / 100)
          ++ leBytes 1 (match s.port.receiver with
            | .idle => 0 | .receiving => 1 | .broken _ => 2 | .turnaround _ => 3 | .replying _ => 4 | .mark => markCode)
          ++ leBytes 1 ((if s.port.faults.parity then 1 else 0) + (if s.port.faults.badCheck then 2 else 0)
            + (if s.port.faults.timeout then 4 else 0) + (if s.port.faults.unknownStation then 8 else 0)
            + (if s.port.faults.replyLoss then 16 else 0)))) ∧
    (∀ t : Nat, s.office.bitTime = some t → ∃ rate : Nat, (0 < t → 2 * 8000000 ≤ 2 * rate * t + t ∧ 2 * rate * t ≤ 2 * 8000000 + t) ∧
      exec (.status (leBytes 1 7 ++ leBytes 1 0)) s = .next (s.replied .ok (leBytes 1 1 ++ leBytes 2 t ++ leBytes 3 rate
        ++ leBytes 1 0
        ++ leBytes 1 ((if s.office.flags.badRate then 1 else 0) + (if s.office.flags.timeout then 2 else 0)
          + (if s.office.flags.badCheck then 4 else 0) + (if s.office.flags.handshake then 8 else 0))
        ++ leBytes 1 (flags s.attention.pending) ++ leBytes 1 (flags s.attention.acknowledged)
        ++ leBytes 1 (flags s.attention.condition) ++ leBytes 1 (flags s.attention.enabled)
        ++ leBytes 1 (if s.attention.taken then 1 else 0) ++ leBytes 1 (if s.attnAsserted then 1 else 0))))

/-! ## The lane bus port (R156 to R165) -/

/-- R158, R160: a whole lane frame. One with a body longer than 12 is abandoned; one with a wrong sum, or from an address
that is no station, is ignored and counted; a good one is counted, handed on and waited for in TURNAROUND. That the row stands for
the whole frame in IDLE too is the model's choice (assumption 10), and so is the judgement of a body longer than 12 at the end of
the frame (assumption 18). -/
def Obligations.LaneFrameJudged : Prop :=
  ∀ (s : State) (address kind : Byte) (body : List Byte) (check : Byte), s.Powered →
    s.port.receiver = .idle ∨ s.port.receiver = .receiving →
    exec (.laneFrameEnd address kind body check) s = .next (
      if 12 < body.length then
        s.faulted { s.port with
          receiver := .broken false
          counters := { s.port.counters with badChecks := counted 65535 s.port.counters.badChecks }
          faults := { s.port.faults with badCheck := true } }
      else if ¬ laneSumZero address kind body check then
        s.faulted ({ s.port with
          counters := { s.port.counters with badChecks := counted 65535 s.port.counters.badChecks }
          faults := { s.port.faults with badCheck := true } } : LanePort).atIdle
      else if (s.station address.toNat).kind = .none then
        s.faulted ({ s.port with
          counters := { s.port.counters with unknownStations := counted 65535 s.port.counters.unknownStations }
          faults := { s.port.faults with unknownStation := true } } : LanePort).atIdle
      else
        { s with port := { s.port with
          counters := { s.port.counters with goodFrames := counted 65535 s.port.counters.goodFrames }
          handed := s.port.handed ++ [({ station := address.toNat, kind := kind, body := body } : LaneFrame)]
          receiver := .turnaround .awaited } })

/-- R156 to R159, R165: the events of lane reception, each with the receiver state it leads to, its counter and its fault kind.
A pending rate takes effect on entry into IDLE. That PARITY_REFUSAL and LANE_LENGTH_ABANDON are taken in IDLE too, for a frame
begun in the same row, is the model's choice (assumption 10), and so is that BROKEN shows the refusal signal that led to it
(assumption 29). -/
def Obligations.LaneReceptionEvents : Prop :=
  ∀ s : State, s.Powered →
    (s.port.receiver = .idle → exec .laneFrameStart s = .next { s with port := { s.port with receiver := .receiving } }) ∧
    (s.port.receiver = .idle ∨ s.port.receiver = .receiving →
      exec .parityRefusal s = .next (s.faulted { s.port with
        receiver := .broken true
        counters := { s.port.counters with parityRefusals := counted 65535 s.port.counters.parityRefusals }
        faults := { s.port.faults with parity := true } }) ∧
      exec .laneLengthAbandon s = .next (s.faulted { s.port with
        receiver := .broken false
        counters := { s.port.counters with badChecks := counted 65535 s.port.counters.badChecks }
        faults := { s.port.faults with badCheck := true } })) ∧
    (s.port.receiver = .receiving →
      exec .laneFrameTimeout s = .next (s.faulted ({ s.port with
        counters := { s.port.counters with timeouts := counted 65535 s.port.counters.timeouts }
        faults := { s.port.faults with timeout := true } } : LanePort).atIdle)) ∧
    (∀ refusal, s.port.receiver = .broken refusal → exec .brokenWaitEnd s = .next { s with port := s.port.atIdle }) ∧
    (s.port.receiver = .mark → exec .restartMarkEnd s = .next { s with port := s.port.atIdle })

/-- R85, R96, R98, R161, R162: turnaround and reply. A held reply is sent when the turnaround ends, and is lost and counted when a
start bit pre-empts it or a collision spoils it; without one, the turnaround leads to IDLE and a start bit costs nothing. A
reply sent whole sets the delivered flag of its station's record. A request whose frame was handed on and is not waited for, since
a start bit has pre-empted it, does all that it would do were it waited for, and the port discards its outcome. That it is the
oldest frame not taken which is taken (assumption 30), and that a TURNAROUND_END before the outcome changes nothing
(assumption 34), is the model's choice. -/
def Obligations.TurnaroundAndReply : Prop :=
  ∀ (s : State) (r : LaneReply), s.Powered →
    (s.port.receiver = .turnaround (.reply r) →
      exec .turnaroundEnd s = .next { s with port := { s.port with receiver := .replying r } } ∧
      exec .replyPreempt s = .next (s.faulted { s.port with
        receiver := .receiving
        counters := { s.port.counters with replyLosses := counted 65535 s.port.counters.replyLosses }
        faults := { s.port.faults with replyLoss := true } })) ∧
    (s.port.receiver = .turnaround .noReply → exec .turnaroundEnd s = .next { s with port := s.port.atIdle }) ∧
    (s.port.receiver = .turnaround .awaited → exec .turnaroundEnd s = .next s) ∧
    (s.port.receiver = .turnaround .noReply ∨ s.port.receiver = .turnaround .awaited →
      exec .replyPreempt s = .next { s with port := { s.port with receiver := .receiving } }) ∧
    (s.port.receiver = .replying r →
      exec .replyCollision s = .next (s.faulted { s.port with
        receiver := .broken false
        counters := { s.port.counters with replyLosses := counted 65535 s.port.counters.replyLosses }
        faults := { s.port.faults with replyLoss := true } }) ∧
      (1 ≤ r.station → r.station ≤ 14 →
        let record := (s.lastReply r.station).map (fun q : LastReply => { q with delivered := true })
        exec .replyComplete s = .next { s with
          port := s.port.atIdle
          lane := { s.lane with lastReplies := s.lane.lastReplies.setIfInBounds (r.station - 1) record } })) ∧
    (∀ (c : Instr) (f : LaneFrame) (later : List LaneFrame) (t : State), laneForm c = some (f.station, f.kind, f.body) →
      s.port.receiver ≠ .mark → s.port.handed = f :: later → s.port.receiver ≠ .turnaround .awaited ∨ later ≠ [] →
      exec c { s with port := { s.port with receiver := .turnaround .awaited, handed := [f] } } = .next t →
      exec c s = .next { t with port := { s.port with handed := later } })

/-! ## The common checks and the answers (R85 to R103) -/

/-- R87 to R90, R102: the common checks in their order. A body of the wrong length or with a field out of range is answered
BAD_REQUEST with card 0 in the record, and no watch entry is matched; then the station kind, the engine state, the card and the
purse's state are each refused with their status after the watch entries have been matched, and BLOCKED also writes the
blocked-seen record and raises BLOCKED_SEEN. The field `outcome` beside the reply is the model's own (assumption 8). -/
def Obligations.CommonChecksRefuse : Prop :=
  ∀ (s : State) (k : RequestKind) (station : Nat),
    (∀ body, s.LaneAsked station k.code body →
      body.length ≠ (if k = .bal ∨ k = .drop then 4 else 7) ∨ noCard (field body 0 4) ∨
        (k = .hold ∨ k = .settle ∨ k = .sale) ∧ 99999 < field body 4 3 →
      exec (k.request station body) s = .next (s.laneAnswered station k.code 0 .badRequest [])) ∧
    ∀ card amount, s.LaneAsked station k.code (k.fields card amount) → 1 ≤ card → card ≤ 99999999 → amount < 16777216 →
      (k = .hold ∨ k = .settle ∨ k = .sale → amount ≤ 99999) →
      let w := s.watched station card k
      let answer (t : State) (status : LaneStatus) : Host.Outcome State Fault Refusal :=
        .next (t.laneAnswered station k.code card status [])
      let outcome := exec (k.request station (k.fields card amount)) s
      if k ≠ .bal ∧ (s.station station).kind ≠ (if k = .cash then .kiosk else .till) then outcome = answer w .wrongStation
      else if s.engine.state = .unset then outcome = answer w .notReady
      else if s.engine.state = .frozen ∧ k ≠ .bal ∧ k ≠ .drop then outcome = answer w .frozen
      else if s.purse? card = none then outcome = answer w .unknownCard
      else ∀ p, s.purse? card = some p → p.state = .blocked →
        outcome = answer { w with
          lane := { w.lane with blockedSeen := { card := card, station := station, minute := s.time.minute,
                                                 count := counted 255 s.lane.blockedSeen.count } }
          attention := { w.attention with pending := { w.attention.pending with blockedSeen := true } } } .blocked

/-- R93: BAL of an ACTIVE purse answers what it can spend now and changes nothing else; it is served while FROZEN. The field
`outcome` beside the reply is the model's own (assumption 8). -/
def Obligations.BalResult : Prop :=
  ∀ (s : State) (station card : Nat) (p : Purse), s.LaneAsked station 1 (leBytes 4 card) → 1 ≤ card → card ≤ 99999999 →
    s.engine.state ≠ .unset → s.purse? card = some p → p.state = .active →
    let c := s.purses.classes[p.cls]
    exec (.bal station (leBytes 4 card)) s = .next ((s.watched station card .bal).laneAnswered station 1 card .ok (
      leBytesInt 4 (p.balance - s.heldAmount p - c.floor) ++ leBytesInt 4 p.balance ++ leBytes 3 (s.heldAmount p)
        ++ leBytes 2 (match s.subsidyWindow p with
          | none => 0
          | some window => c.cap - s.usedToday p window)
        ++ leBytes 3 (c.dayLimit - s.spentToday p) ++ leBytes 1 (if c.dayLimit = 0 then 1 else 0)))

/-- R57, R58, R68 to R73: a HOLD opens a hold at the tail of the till's queue, or refreshes the till's own in place, for the
granted amount; the checks in their order refuse it and change nothing more. The field `outcome` beside the reply is the
model's own (assumption 8). -/
def Obligations.HoldResult : Prop :=
  ∀ (s : State) (station card asked : Nat) (p : Purse), s.Admitted station .hold card asked p → asked ≤ 99999 →
    (s.station station).kind = .till →
    let w := s.watched station card .hold
    let answer (t : State) (status : LaneStatus) (body : List Byte) : State :=
      t.laneAnswered station 2 card status body
    let granted := (s.grantVerdict p asked).2
    let status : LaneStatus := if granted = asked then .ok else .shortOk
    let body (position : Nat) : List Byte :=
      leBytes 4 granted ++ leBytes 1 position ++ leBytesInt 4 (p.balance - s.purses.classes[p.cls].floor - granted)
    exec (.hold station (leBytes 4 card ++ leBytes 3 asked)) s = .next (
      match p.holdStation with
      | none =>
        if (s.station station).quota ≤ (s.queue station).length then answer w .queueFull []
        else if 64 ≤ s.holds.holds.length then answer w .poolFull []
        else
          match (s.grantVerdict p asked).1 with
          | some refusal => answer w refusal []
          | none =>
            answer { w with
              purses := { w.purses with purses := w.purses.purses.map (fun q : Purse =>
                if q.card = card then { q with holdStation := some station } else q) }
              holds := { w.holds with
                holds := w.holds.holds ++ [({ card := card, station := station, granted := granted,
                                              remaining := (s.station station).lifetime } : Hold)]
                lastExpired := if s.lastExpired station = some card then
                    w.holds.lastExpired.setIfInBounds (station - 1) none
                  else w.holds.lastExpired } } status (body (s.queue station).length)
      | some other =>
        if other ≠ station then answer w .inUse []
        else
          match (s.grantVerdict p asked).1 with
          | some refusal => answer w refusal []
          | none =>
            answer { w with holds := { w.holds with holds := w.holds.holds.map (fun h : Hold =>
              if h.card = card ∧ h.station = station then
                { h with granted := granted, remaining := (s.station station).lifetime }
              else h) } } status (body ((s.queue station).findIdx (fun h : Hold => decide (h.card = card)))))

/-- R43 to R54, R74, R81: a SETTLE of the till's own hold and a SALE are charged by the stages in their order. An applied SETTLE
consumes the hold; a SALE keeps the amount of another station's hold apart and touches no hold; a refused charge changes nothing
more. The field `outcome` beside the reply is the model's own (assumption 8). -/
def Obligations.SettleAndSaleResult : Prop :=
  ∀ (s : State) (station card gross : Nat) (p : Purse), gross ≤ 99999 → (s.station station).kind = .till → s.PursesSound →
    (s.Admitted station .settle card gross p → (∃ h ∈ s.holds.holds, h.card = card ∧ h.station = station) →
      exec (.settle station (leBytes 4 card ++ leBytes 3 gross)) s = .next (
        let w := s.watched station card .settle
        match s.chargeVerdict p gross 0 with
        | some refusal => w.laneAnswered station 3 card refusal []
        | none =>
          ((w.charged station p gross).withoutHold station card).laneAnswered station 3 card .ok (s.chargeBody p gross))) ∧
    (s.Admitted station .sale card gross p →
      exec (.sale station (leBytes 4 card ++ leBytes 3 gross)) s = .next (
        let w := s.watched station card .sale
        match s.chargeVerdict p gross (if p.holdStation = some station then 0 else s.heldAmount p) with
        | some refusal => w.laneAnswered station 4 card refusal []
        | none => (w.charged station p gross).laneAnswered station 4 card .ok (s.chargeBody p gross)))

/-- R74 to R76: a DROP of the till's own hold removes it and answers its amount, in RUNNING and FROZEN. A DROP or a SETTLE
without one is answered NO_HOLD, except that a SETTLE of the last-expired card is answered HOLD_EXPIRED, which makes that
card absent. The field `outcome` beside the reply is the model's own (assumption 8). -/
def Obligations.DropAndMissingHold : Prop :=
  ∀ (s : State) (station card gross : Nat) (p : Purse), s.Powered → (s.station station).kind = .till → 1 ≤ card →
    card ≤ 99999999 → gross ≤ 99999 → s.purse? card = some p → p.state = .active →
    (s.LaneAsked station 5 (leBytes 4 card) → s.engine.state ≠ .unset →
      (∀ h : Hold, s.hold? card station = some h → exec (.drop station (leBytes 4 card)) s = .next (
        ((s.watched station card .drop).withoutHold station card).laneAnswered station 5 card .ok (leBytes 3 h.granted))) ∧
      ((∀ h ∈ s.holds.holds, ¬ (h.card = card ∧ h.station = station)) →
        exec (.drop station (leBytes 4 card)) s = .next (
          (s.watched station card .drop).laneAnswered station 5 card .noHold []))) ∧
    (s.LaneAsked station 3 (leBytes 4 card ++ leBytes 3 gross) → s.engine.state = .running →
      (∀ h ∈ s.holds.holds, ¬ (h.card = card ∧ h.station = station)) →
      exec (.settle station (leBytes 4 card ++ leBytes 3 gross)) s = .next (
        let w := s.watched station card .settle
        if s.lastExpired station = some card then
          { w with holds := { w.holds with lastExpired := w.holds.lastExpired.setIfInBounds (station - 1) none } }.laneAnswered
            station 3 card .holdExpired []
        else w.laneAnswered station 3 card .noHold []))

/-- R106 to R108: the checks of CASH in their order, and the credit, its record and the reply of an accepted one. The field
`outcome` beside the reply is the model's own (assumption 8). -/
def Obligations.CashResult : Prop :=
  ∀ (s : State) (station card amount : Nat) (p : Purse), s.Admitted station .cash card amount p → amount < 16777216 →
    (s.station station).kind = .kiosk →
    exec (.cash station (leBytes 4 card ++ leBytes 3 amount)) s = .next (
      let w := s.watched station card .cash
      if amount < 1 ∨ 50000 < amount then w.laneAnswered station 6 card .badRequest []
      else if s.journal.timer = 0 then w.laneAnswered station 6 card .overdueRefused []
      else if 999999 < p.balance + amount then w.laneAnswered station 6 card .purseFull []
      else if 1920 ≤ s.journal.records.length then w.laneAnswered station 6 card .journalFull []
      else
        (w.credited card amount station (.cash card amount (p.balance + amount))).laneAnswered station 6 card .ok
          (leBytes 3 amount ++ leBytesInt 4 (p.balance + amount) ++ leBytes 4 s.journal.nextSeq))

/-- R85, R88, R92, R97: a REPEAT answers the station's last reply with the flags as they stand now, or NO_REPLY, whatever its
body, and writes nothing but what the port holds; a request of an unknown kind is refused BAD_REQUEST; a frame of a station set
to kind NONE in between is dropped without a reply. The field `outcome` beside the reply is the model's own (assumption 8). -/
def Obligations.RepeatUnknownDropped : Prop :=
  ∀ (s : State) (station : Nat) (kind : Byte) (body : List Byte), s.Powered →
    (s.LaneAsked station 7 body →
      exec (.repeatReply station body) s = .next (
        let overdue := decide (s.journal.timer = 0)
        let r : LaneReply := match s.lastReply station with
          | none => { station := station, status := .noReply, overdue := overdue, short := false, repeated := true, body := [] }
          | some q => { station := station, status := q.status, overdue := overdue, short := q.short, repeated := true,
                        body := leBytes 1 q.kind.toNat ++ leBytes 4 q.card ++ leBytes 1 (if q.delivered then 1 else 0) ++ q.body }
        { s with lane := { s.lane with outcome := some r }, port := s.port.holding r })) ∧
    (s.LaneAsked station kind body → kind.toNat = 0 ∨ 7 < kind.toNat →
      exec (.unknownRequestKind station kind body) s = .next (s.laneAnswered station kind 0 .badRequest [])) ∧
    (∀ c : Instr, laneForm c = some (station, kind, body) → (s.station station).kind = .none →
      s.port.receiver = .turnaround .awaited → s.port.handed = [{ station := station, kind := kind, body := body }] →
      exec c s = .next { s with
        lane := { s.lane with outcome := none }
        port := { s.port with handed := [], receiver := .turnaround .noReply } })

/-! ## The clock, ticks and rollover (R26 to R33, R77 to R79, R137, R138, R149, R150) -/

/-- R26, R29, R30, R33: a seconds tick advances the clock, and a minute tick that reaches the rollover minute with the clock
valid advances the day, 0 following 65,535; nothing else of the time unit changes, and on battery or with RESETn low nothing
else at all. That the day advances within the tick whatever order is named is the model's choice (assumption 6), and that the
clock counts on battery whatever the retention marker says is inferred (assumption 20). -/
def Obligations.TickAdvancesClock : Prop :=
  ∀ (s : State) (order : List TickTaker), s.time.second ≤ 59 → s.time.minute ≤ 1439 → s.time.day ≤ 65535 →
    let clock : TimeUnit := { s.time with
      second := if s.time.second = 59 then 0 else s.time.second + 1
      minute := if s.time.second = 59 then (if s.time.minute = 1439 then 0 else s.time.minute + 1) else s.time.minute
      day := if s.RolloverNext then (if s.time.day = 65535 then 0 else s.time.day + 1) else s.time.day }
    (∃ t, exec (.secondsTick order) s = .next t ∧ t.time = clock) ∧
    (¬ s.Powered → exec (.secondsTick order) s = .next { s with time := clock })

/-- The order in which the blocks take a tick is the order the command names, each block as by its own command; a block not
named takes it later, and a rollover not named is taken last. This form of the tick is the model's choice (assumption 6). -/
def Obligations.TickTakenInOrder : Prop :=
  (∀ (s t : State) (order : List TickTaker) (x : TickTaker) (c : Instr), s.Powered → tickCommand x = some c →
    .rollover ∈ order ∨ ¬ s.RolloverNext → exec (.secondsTick order) s = .next t →
    exec (.secondsTick (order ++ [x])) s = exec c t) ∧
  ∀ (s : State) (order : List TickTaker), .rollover ∉ order →
    exec (.secondsTick (order ++ [.rollover])) s = exec (.secondsTick order) s

/-- R77 to R79: while RUNNING a seconds tick makes every open hold one second older; those that reach 0 expire: they leave
their queues, their purses' hold stations are absent, and the last of them in each queue is the station's last-expired card. In
any other engine state the tick passes without effect. That the tick is one still due, and that the row changes nothing when none
is, is the model's choice (assumption 6). -/
def Obligations.HoldTickResult : Prop :=
  ∀ s : State, (s.ticks.hold = false → exec .holdExpiry s = .next s) ∧
    (s.Powered → s.PursesSound → s.HoldsSound → s.ticks.hold = true → exec .holdExpiry s = .next (
      let t : State := { s with ticks := { s.ticks with hold := false } }
      if s.engine.state ≠ .running then t
      else
        { t with
          purses := { s.purses with purses := s.purses.purses.map (fun q : Purse =>
            if ∃ h ∈ s.holds.holds, h.card = q.card ∧ h.remaining ≤ 1 then { q with holdStation := none } else q) }
          holds := { s.holds with
            holds := (s.holds.holds.filter (fun h : Hold => decide (2 ≤ h.remaining))).map
              (fun h : Hold => { h with remaining := h.remaining - 1 })
            lastExpired := Vector.ofFn (fun k : Fin 14 =>
              match (s.holds.holds.filter (fun h : Hold => decide (h.station = k.val + 1 ∧ h.remaining ≤ 1))).getLast? with
              | some h => some h.card
              | none => s.holds.lastExpired[k]) } }))

/-- R149: while FROZEN a seconds tick counts the freeze timer down, and the one that takes it to 0 returns the engine to RUNNING
with the freeze change record written and FREEZE_CHANGE raised. R137, R138: a minute tick counts the overdue timer down while
the journal is high and the engine RUNNING, and the one that takes it to 0 begins the overdue state. That the ticks are ones
still due, and that a row changes nothing when none is, is the model's choice (assumption 6). -/
def Obligations.FreezeLimitAndOverdue : Prop :=
  ∀ s : State, s.Powered →
    (s.ticks.engine = true →
      exec .freezeLimitExpiry s = .next (
        let t : State := { s with ticks := { s.ticks with engine := false } }
        if s.engine.state ≠ .frozen then t
        else if s.engine.timer = 1 then
          { t with
            engine := { s.engine with
              state := .running, reason := none, timer := 0, changeCount := counted 255 s.engine.changeCount,
              change := some { change := .exit, reason := .limit, day := s.time.day, minute := s.time.minute } }
            attention := { s.attention with pending := { s.attention.pending with freezeChange := true } } }
        else { t with engine := { s.engine with timer := s.engine.timer - 1 } })) ∧
    (s.ticks.journal = true →
      exec .overdueBegin s = .next (
        let t : State := { s with ticks := { s.ticks with journal := false } }
        if s.journal.highWater ≤ s.journal.records.length ∧ s.engine.state = .running ∧ 0 < s.journal.timer then
          { t with
            journal := { s.journal with timer := s.journal.timer - 1 }
            attention := if s.journal.timer = 1 then s.attention.conditionBegins .overdue else s.attention }
        else t)) ∧
    (s.ticks.engine = false → exec .freezeLimitExpiry s = .next s) ∧
    (s.ticks.journal = false → exec .overdueBegin s = .next s)

/-- R26, R30, R31, R128, R150: a seconds tick, with the blocks taking it in every order. The ticks still due are taken first, then
the clock advances and the ticks are issued. At rollover the blocks named before it take the tick, the rollover follows, and the
blocks named after it take the tick in the state it leaves; a rollover not named comes last. Any other tick is taken by the blocks
named. A block not named takes the tick later. This form of the tick, and a rollover within its own tick, are the model's choice
(assumption 6). -/
def Obligations.RolloverResult : Prop :=
  ∀ (s : State) (before after : List TickTaker), s.Powered → s.time.second ≤ 59 → s.time.day ≤ 65535 → .rollover ∉ before →
    let d := s.ticksTakenBy [.holdUnit, .engineControl, .journal]
    let second := if s.time.second = 59 then 0 else s.time.second + 1
    let minute := if s.time.second = 59 then (if s.time.minute < 1439 then s.time.minute + 1 else 0) else s.time.minute
    let t : State := { d with
      time := { s.time with second := second, minute := minute }
      ticks := { hold := true, engine := true, journal := decide (s.time.second = 59) } }
    (¬ s.RolloverNext → exec (.secondsTick (before ++ after)) s = .next (t.ticksTakenBy (before ++ after))) ∧
    (s.RolloverNext →
      exec (.secondsTick before) s = .next (t.ticksTakenBy before).rolledOver ∧
      exec (.secondsTick (before ++ .rollover :: after)) s =
        .next ((t.ticksTakenBy before).rolledOver.ticksTakenBy after))

/-! ## Starts (R24, R40, R84, R105, R122, R130, R141 to R144, R152, R165, R167, R180) -/

/-- R142, R143, R152: the events that make a warm start, and what it leaves. A RESETn low shorter than 2 µs either changes no
state or makes the same warm start: the choice is free (assumption 2). RESTART_WARM_START and the end of the reply period are
the one start of an accepted RESTART (assumption 12). VDD that returns while RESETn is low makes its start at once, and a RESETn
released while VDD is absent makes none, the first of which is the model's choice (assumption 13). The start drops the ticks still
due (assumption 19) and the frames handed on and not taken (assumption 26), clears the model's own field `outcome`
(assumption 23), and drops a warm start for which an accepted RESTART waits (assumption 32). -/
def Obligations.WarmStarts : Prop :=
  ∀ (s : State) (lowNanoseconds : Nat) (r : OfficeReply),
    (s.supply.vdd = true → s.supply.resetLow = true →
      let released : State := { s with supply := { s.supply with resetLow := false } }
      let chosen : State := { released with openChoices := s.openChoices + 1 }
      (2000 ≤ lowNanoseconds → exec (.resetRelease lowNanoseconds) s = .next (released.warmStarted .reset)) ∧
      (lowNanoseconds < 2000 → exec (.resetRelease lowNanoseconds) s = .next chosen ∨
        exec (.resetRelease lowNanoseconds) s = .next (chosen.warmStarted .reset))) ∧
    (s.supply.vdd = false → s.supply.resetLow = true →
      exec (.resetRelease lowNanoseconds) s = .next { s with supply := { s.supply with resetLow := false } }) ∧
    (s.supply.vdd = false → s.supply.retentionValid = true →
      exec .powerReturn s = .next ({ s with supply := { s.supply with vdd := true } }.warmStarted .power)) ∧
    (s.Powered → s.office.restartPending = true →
      (s.office.transmit = .reply r →
        exec .officeReplyEnd s = .next (s.warmStarted .restart) ∧ exec .restartWarmStart s = .next (s.warmStarted .restart)) ∧
      (s.office.transmit = .answeringBreak →
        exec .answeringBreakEnd s = .next (s.warmStarted .restart) ∧
        exec .restartWarmStart s = .next (s.warmStarted .restart)))

/-- R142, R143: RESETn and the supplies. While RESETn is low or VDD absent no command changes anything but those of the supply
and of RESETn and the clock's tick; a fall of VBAT counts only while VDD is absent, and that a low VBAT is not noticed at the loss of
VDD is the model's choice (assumption 31); power that returns with the retention marker
invalid makes a cold start, which is the state after reset with the marker valid, at once also while RESETn is low (assumption 13).
That POWER_RETURN with VDD present and RESET_RELEASE with RESETn not low change nothing is inferred (assumption 9). The start drops the ticks still due (assumption 19) and the frames handed on (assumption 26), drops a warm start for which an accepted
RESTART waits (assumption 32), and sets the model's own fields as after reset (assumption 23), but for the count of open choices
and the queue, which it keeps. -/
def Obligations.SupplyEventsAndColdStart : Prop :=
  ∀ s : State,
    exec .resetAssert s = .next { s with supply := { s.supply with resetLow := true } } ∧
    exec .powerLoss s = .next { s with supply := { s.supply with vdd := false } } ∧
    (s.supply.vdd = true → exec .retentionLoss s = .next s) ∧
    (s.supply.vdd = false → exec .retentionLoss s = .next { s with supply := { s.supply with retentionValid := false } }) ∧
    (s.supply.vdd = false → s.supply.retentionValid = false →
      exec .powerReturn s = .next { State.reset with
        supply := { vdd := true, resetLow := s.supply.resetLow, retentionValid := true }
        openChoices := s.openChoices, pending := s.pending }) ∧
    (s.supply.vdd = true → exec .powerReturn s = .next s) ∧
    (s.supply.resetLow = false → ∀ lowNanoseconds, exec (.resetRelease lowNanoseconds) s = .next s) ∧
    (¬ s.Powered → ∀ c : Instr, (∀ order, c ≠ .secondsTick order) → (∀ lowNanoseconds, c ≠ .resetRelease lowNanoseconds) →
      c ≠ .resetAssert → c ≠ .powerLoss → c ≠ .retentionLoss → c ≠ .powerReturn → exec c s = .next s)

/-! ## Reset and the invariants -/

/-- R24, R40, R84, R105, R122, R141, R143, R144, R165, R167, R180: what a cold start leaves, block by block, and that it
meets every invariant below. -/
def Obligations.ResetValuesAndInvariants : Prop :=
  let s := State.reset
  (s.purses.purses = [] ∧ s.purses.floatTotal = 0 ∧ s.purses.debitTotal = 0 ∧ s.purses.subsidyTotal = 0 ∧
    s.purses.creditTotal = 0 ∧ s.purses.firstDay = 0 ∧
    ∀ c ∈ s.purses.classes.toList, c = { rate := 0, cap := 0, floor := 0, dayLimit := 0, holdCeiling := 2000 }) ∧
  (s.time.second = 0 ∧ s.time.minute = 0 ∧ s.time.day = 0 ∧ s.time.valid = false ∧ s.time.rolloverMinute = 240 ∧
    s.time.rolloverFreeze = false ∧ ∀ w ∈ s.time.windows.toList, w.used = false) ∧
  (s.holds.holds = [] ∧ (∀ c ∈ s.holds.lastExpired.toList, c = none) ∧
    ∀ e ∈ s.holds.stations.toList, e = { kind := .none, quota := 4, lifetime := 180 }) ∧
  (s.credit.state = .none ∧ s.credit.staging = [] ∧ s.credit.results = []) ∧
  (s.journal.records = [] ∧ s.journal.nextSeq = 1 ∧ s.journal.cursor = 1 ∧ s.journal.highWater = 1536 ∧
    s.journal.reload = 30 ∧ s.journal.timer = 30) ∧
  ((∀ r ∈ s.lane.lastReplies.toList, r = none) ∧
    (∀ w ∈ s.lane.watch.toList, w = { card := 0, latch := false, hits := 0, lastStation := 0, lastKind := none }) ∧
    s.lane.blockedSeen = { card := 0, station := 0, minute := 0, count := 0 }) ∧
  (s.port.rate = 19200 ∧ s.port.pendingRate = none ∧ s.port.receiver = .mark ∧
    s.port.counters = { goodFrames := 0, parityRefusals := 0, badChecks := 0, timeouts := 0, unknownStations := 0,
                        replyLosses := 0 } ∧
    s.port.faults = { parity := false, badCheck := false, timeout := false, unknownStation := false, replyLoss := false } ∧
    s.port.handed = []) ∧
  (s.office.bitTime = none ∧ s.office.receiver = .seeking ∧ s.office.transmit = .startBreak false ∧
    s.office.flags = { badRate := false, timeout := false, badCheck := false, handshake := false }) ∧
  (s.engine.state = .unset ∧ s.engine.reason = none ∧ s.engine.timer = 0 ∧ s.engine.limit = 3 ∧ s.engine.change = none ∧
    s.engine.changeCount = 0 ∧ s.engine.startCause = .cold) ∧
  ((∀ c : Cause, s.attention.pending.get c = false ∧ s.attention.acknowledged.get c = false ∧
    s.attention.enabled.get c = false) ∧ s.attention.taken = false) ∧ s.supply.retentionValid = true ∧
  s.PursesSound ∧ s.HoldsSound ∧ s.JournalSound ∧ s.ClockEngineSound ∧ s.AttentionSound ∧ s.BatchSound ∧ s.PortsSound

/-- R1, R2, R3, R8, R10, R11: every step keeps the purse table sound: cards in range and in order, at most 4,096 of them,
balances, spends and class records in their ranges, the totals at most 4,294,967,295, and the float total equal to the sum of
the balances. -/
def Obligations.PursesInvariant : Prop :=
  ∀ s t : State, s.PursesSound → step s = .next t → t.PursesSound

/-- R5, R60, R63, R64, R66, R144: every step keeps the holds and the purses' hold stations in agreement: at most 64 holds, one
for a card, each of an ACTIVE purse that names its station, each in the queue of a till; no hold while the engine is UNSET. -/
def Obligations.HoldsAgreeWithPurses : Prop :=
  ∀ s t : State, s.PursesSound → s.HoldsSound → step s = .next t → t.HoldsSound

/-- R123, R124, R126, R131, R137: every step keeps the journal sound: at most 2,048 records with sequence numbers that run on to
the next one, the cursor at one of them, settings in their ranges, the timer at most the reload and equal to it below the
high-water mark. -/
def Obligations.JournalInvariant : Prop :=
  ∀ s t : State, s.JournalSound → step s = .next t → t.JournalSound

/-- R25, R27, R29, R36, R144, R145: every step keeps the clock in its ranges, day 0 while it is invalid, the window table good,
the engine out of UNSET only with a valid clock, and the freeze timer above 0 and a freeze reason exactly while FROZEN. -/
def Obligations.ClockEngineInvariant : Prop :=
  ∀ s t : State, s.ClockEngineSound → step s = .next t → t.ClockEngineSound

/-- R127, R138, R139, R175, R176: every step keeps the level conditions those of the journal, a condition that holds pending, and
acknowledged only a condition that holds. -/
def Obligations.AttentionInvariant : Prop :=
  ∀ s t : State, s.JournalSound → s.AttentionSound → step s = .next t → t.AttentionSound

/-- R112, R114, R116, R117: every step keeps the batch sound: the staged sum is that of the items, never more items than
declared, and after a close the applied and the rejected items add up to what was declared. -/
def Obligations.BatchInvariant : Prop :=
  ∀ s t : State, s.BatchSound → step s = .next t → t.BatchSound

/-- R99, R102, R152, R156, R160, R163, R167, R168, R169: every step keeps the two ports sound: a rate of the four, no pending rate
in IDLE, a frame handed on while its outcome is awaited, counters in range, bit times of 69 to 1,667, no reply period on a link
that is not rated, no rate in a start break that no answering break is to follow, and a RESTART that waits only in a reply period
and never in a start break. That an answering break waits for the end of a start break (assumption 11), and that a start drops a
RESTART that waits (assumption 32), is the model's choice. -/
def Obligations.PortsInvariant : Prop :=
  ∀ s t : State, s.PortsSound → step s = .next t → t.PortsSound

/-! ## Whole-machine rules -/

/-- R10, R13, R124: every change of a balance is accounted for by the records appended in the same event. In every event but a
cold start the journal loses only its oldest records and gains new ones at its end under the next sequence numbers, every
card's balance changes by exactly the amounts of its new records, each of which carries the balance after it, and the float
total changes by their sum. -/
def Obligations.EveryChangeIsRecorded : Prop :=
  ∀ (s t : State) (c : Instr), s.PursesSound → exec c s = .next t → (c = .powerReturn → s.supply.retentionValid = true) →
    ∃ removed kept added : List Record,
      s.journal.records = removed ++ kept ∧ t.journal.records = kept ++ added ∧
      consecutive (added.map Record.seq ++ [t.journal.nextSeq]) = true ∧
      (added.map Record.seq ++ [t.journal.nextSeq]).head? = some s.journal.nextSeq ∧
      (∀ card, t.balanceOf card = s.balanceOf card +
        ((added.filter (fun r : Record => decide (r.body.card = card))).map (fun r : Record => r.body.amount)).sum) ∧
      (∀ (older newer : List Record) (r : Record), added = older ++ r :: newer → r.body.card ≠ 0 →
        r.body.after = s.balanceOf r.body.card + (((older ++ [r]).filter
          (fun q : Record => decide (q.body.card = r.body.card))).map (fun q : Record => q.body.amount)).sum) ∧
      t.purses.floatTotal = s.purses.floatTotal + (added.map (fun r : Record => r.body.amount)).sum

/-- R64, R66, R87, R89, R95: a lane request of one station leaves every other station's queue, last-expired card and last-reply
record as they were, and the classes, the clock, the station table, the batch, the engine and the office link untouched; while
the engine is not RUNNING it moves no money and appends nothing. -/
def Obligations.LaneRequestIsolation : Prop :=
  ∀ (s : State) (c : Instr) (station : Nat) (kind : Byte) (body : List Byte), laneForm c = some (station, kind, body) →
    ∃ t, exec c s = .next t ∧
      (∀ other, 1 ≤ other → other ≤ 14 → other ≠ station →
        t.queue other = s.queue other ∧ t.lastExpired other = s.lastExpired other ∧ t.lastReply other = s.lastReply other) ∧
      t.purses.classes = s.purses.classes ∧ t.time = s.time ∧
      t.holds.stations = s.holds.stations ∧ t.credit = s.credit ∧ t.office = s.office ∧ t.engine = s.engine ∧
      t.supply = s.supply ∧ t.ticks = s.ticks ∧
      (s.engine.state ≠ .running → t.journal = s.journal ∧ t.purses.floatTotal = s.purses.floatTotal ∧
        ∀ card, t.balanceOf card = s.balanceOf card)

/-! ## The output lines (R153, R155, R159, R162, R165, R169, R170, R173) -/

/-- R142, R155, R159, R162, R165, R153, R169, R170, R173: what the CP240 puts on LBUS, LBDIR and OTX, bit by bit: a lane reply and an
office reply character by character with the codes of their statuses and the check, the restart mark, the refusal signal, the
answering break and the start break; LBDIR is high for each bit that LBUS is pulled low. That the refusal is shown in the BROKEN it
led to (assumption 29), that bits 4 to 7 of the link flags are 0 (assumption 28), and that a break accepted in a start break leaves
OTX low until the start break ends (assumption 11), is the model's choice. R142: while RESETn is low or VDD absent the lines are
released. -/
def Obligations.LinesCarryRepliesAndSignals : Prop :=
  ∀ s : State,
    let bits (c : Byte) : List Bool := [c.getLsbD 0, c.getLsbD 1, c.getLsbD 2, c.getLsbD 3, c.getLsbD 4, c.getLsbD 5, c.getLsbD 6,
      c.getLsbD 7]
    let laneBits (c : Byte) : List Bool := [false] ++ bits c ++ [decide ((bits c).count true % 2 = 1), true, true]
    let officeBits (c : Byte) : List Bool := [false] ++ bits c ++ [true]
    let sum (l : List Byte) : Nat := (l.map BitVec.toNat).sum
    s.lbdirBits = s.lbusBits.map (fun high : Bool => !high) ∧
    (s.Powered →
      (∀ r : LaneReply, s.port.receiver = .replying r → ∃ check : Byte,
        let frame := leBytes 1 (128 + r.station) ++ leBytes 1 (([.ok, .shortOk, .badRequest, .wrongStation, .notReady, .frozen,
            .unknownCard, .blocked, .inUse, .queueFull, .poolFull, .noHold, .holdExpired, .insufficient, .dayLimit, .purseFull,
            .journalFull, .overdueRefused, .noReply] : List LaneStatus).idxOf r.status)
          ++ leBytes 1 ((if r.overdue then 1 else 0) + (if r.short then 2 else 0) + (if r.repeated then 4 else 0))
          ++ leBytes 1 r.body.length ++ r.body ++ [check]
        sum frame % 256 = 0 ∧ s.lbusBits = frame.flatMap laneBits) ∧
      (s.port.receiver = .mark → s.lbusBits = List.replicate 24 false) ∧
      (∀ refusal, s.port.receiver = .broken refusal → s.lbusBits = if refusal then [false] else []) ∧
      (s.port.receiver = .idle ∨ s.port.receiver = .receiving → s.lbusBits = []) ∧
      (∀ h, s.port.receiver = .turnaround h → s.lbusBits = []) ∧
      (∀ r : OfficeReply, s.office.transmit = .reply r → s.otxStartBreak = false ∧ ∃ check : Byte,
        let frame := leBytes 1 (([.ok, .badRequest, .range, .unknownCard, .cardExists, .tableFull, .hasHold, .purseFull, .noRoom,
            .wrongState, .badTable, .batchState, .countExceeded, .mismatch, .notRead, .empty, .atEnd] :
            List OfficeStatus).idxOf r.status)
          ++ leBytes 1 ((if r.flags.badRate then 1 else 0) + (if r.flags.timeout then 2 else 0)
            + (if r.flags.badCheck then 4 else 0) + (if r.flags.handshake then 8 else 0))
          ++ leBytes 1 r.body.length ++ r.body ++ [check]
        sum frame % 256 = 0 ∧ s.otxBits = frame.flatMap officeBits) ∧
      (s.office.transmit = .answeringBreak →
        s.otxStartBreak = false ∧ s.otxBits = List.replicate 2 true ++ List.replicate 10 false) ∧
      (∀ answer, s.office.transmit = .startBreak answer → s.otxStartBreak = true ∧ s.otxBits = []) ∧
      (s.office.transmit = .idle → s.otxStartBreak = false ∧ s.otxBits = [])) ∧
    (¬ s.Powered → s.lbusBits = [] ∧ s.otxBits = [] ∧ s.otxStartBreak = false)
end

