-- ==== Sys2Proof/Laws/Formats.lean ====
section
/-! SUPPORT. Fields on the links: the length and the value of the bytes of a number, the fields of a body put together from
such bytes, and what the body of each command spells when its fields are in their ranges. -/

namespace Sys2Proof.Machine

/-! ## Bytes of a number -/

theorem leBytes_length (k n : Nat) : (leBytes k n).length = k := by
  induction k generalizing n with
  | zero => rfl
  | succ k ih => simp [leBytes, ih]

theorem leBytesInt_length (k : Nat) (z : Int) : (leBytesInt k z).length = k := leBytes_length k _

theorem leNat_lt (bs : List Byte) : leNat bs < 256 ^ bs.length := by
  induction bs with
  | nil => simp [leNat]
  | cons b bs ih =>
    have := b.isLt
    simp only [leNat, List.length_cons, pow_succ]
    omega

theorem leNat_leBytes_mod (k n : Nat) : leNat (leBytes k n) = n % 256 ^ k := by
  induction k generalizing n with
  | zero => simp [leBytes, leNat, Nat.mod_one]
  | succ k ih =>
    have hb : (BitVec.ofNat 8 n).toNat = n % 256 := BitVec.toNat_ofNat n 8
    rw [leBytes, leNat, ih, hb, pow_succ', Nat.mod_mul]

theorem leNat_leBytes {k n : Nat} (h : n < 256 ^ k) : leNat (leBytes k n) = n := by
  rw [leNat_leBytes_mod, Nat.mod_eq_of_lt h]

theorem leBytes_leNat (bs : List Byte) : leBytes bs.length (leNat bs) = bs := by
  induction bs with
  | nil => rfl
  | cons b bs ih =>
    have hb := b.isLt
    have hd : (b.toNat + 256 * leNat bs) / 256 = leNat bs := by omega
    have hm : BitVec.ofNat 8 (b.toNat + 256 * leNat bs) = b := by
      apply BitVec.eq_of_toNat_eq
      simp only [BitVec.toNat_ofNat]
      omega
    simp only [List.length_cons, leNat, leBytes, hd, hm, ih]

theorem leInt_leBytesInt {k : Nat} {z : Int} (hl : -((256 ^ k : Nat) : Int) ≤ 2 * z) (hu : 2 * z < ((256 ^ k : Nat) : Int)) :
    leInt (leBytesInt k z) = z := by
  have hpos : (0 : Int) < ((256 ^ k : Nat) : Int) := by positivity
  have h0 := Int.emod_nonneg z (ne_of_gt hpos)
  have h1 := Int.emod_lt_of_pos z hpos
  have hn : leNat (leBytesInt k z) = (z % ((256 ^ k : Nat) : Int)).toNat := leNat_leBytes (by omega)
  simp only [leInt, hn, leBytesInt_length]
  generalize hM : 256 ^ k = M at *
  rcases lt_or_ge z 0 with hz | hz
  · have he : z % (M : Int) = z + M := by
      rw [← Int.add_emod_right, Int.emod_eq_of_lt (by omega) (by omega)]
    rw [he] at h0 h1 ⊢
    split <;> omega
  · have he : z % (M : Int) = z := Int.emod_eq_of_lt hz (by omega)
    rw [he] at h0 h1 ⊢
    split <;> omega

/-! ## Fields of a body -/

theorem field_append_left {a b : List Byte} {off len : Nat} (h : off + len ≤ a.length) :
    field (a ++ b) off len = field a off len := by
  unfold field
  rw [List.drop_append_of_le_length (by omega), List.take_append_of_le_length (by simp; omega)]

theorem field_append_right {a b : List Byte} {off len : Nat} (h : a.length ≤ off) :
    field (a ++ b) off len = field b (off - a.length) len := by
  unfold field
  rw [List.drop_append, List.drop_of_length_le h, List.nil_append]

theorem field_leBytes {k n : Nat} (h : n < 256 ^ k) : field (leBytes k n) 0 k = n := by
  unfold field
  rw [List.drop_zero, List.take_of_length_le (by rw [leBytes_length]), leNat_leBytes h]

theorem signedField_append_right {a b : List Byte} {off len : Nat} (h : a.length ≤ off) :
    signedField (a ++ b) off len = signedField b (off - a.length) len := by
  unfold signedField
  rw [List.drop_append, List.drop_of_length_le h, List.nil_append]

theorem signedField_append_left {a b : List Byte} {off len : Nat} (h : off + len ≤ a.length) :
    signedField (a ++ b) off len = signedField a off len := by
  unfold signedField
  rw [List.drop_append_of_le_length (by omega), List.take_append_of_le_length (by simp; omega)]

theorem signedField_leBytesInt {k : Nat} {z : Int} (hl : -((256 ^ k : Nat) : Int) ≤ 2 * z)
    (hu : 2 * z < ((256 ^ k : Nat) : Int)) : signedField (leBytesInt k z) 0 k = z := by
  unfold signedField
  rw [List.drop_zero, List.take_of_length_le (by rw [leBytesInt_length]), leInt_leBytesInt hl hu]

/-- The first of two adjacent fields. -/
theorem field_first {k n : Nat} {b : List Byte} (h : n < 256 ^ k) : field (leBytes k n ++ b) 0 k = n := by
  rw [field_append_left (by rw [leBytes_length]; omega), field_leBytes h]

/-- A field behind another one. -/
theorem field_behind {k n off len : Nat} {b : List Byte} (h : k ≤ off) :
    field (leBytes k n ++ b) off len = field b (off - k) len := by
  rw [field_append_right (by rw [leBytes_length]; exact h), leBytes_length]

/-- A signed field behind another one. -/
theorem signedField_behind {k n off len : Nat} {b : List Byte} (h : k ≤ off) :
    signedField (leBytes k n ++ b) off len = signedField b (off - k) len := by
  rw [signedField_append_right (by rw [leBytes_length]; exact h), leBytes_length]

/-- A field behind a signed one. -/
theorem field_behindInt {k off len : Nat} {z : Int} {b : List Byte} (h : k ≤ off) :
    field (leBytesInt k z ++ b) off len = field b (off - k) len := by
  rw [field_append_right (by rw [leBytesInt_length]; exact h), leBytesInt_length]

/-! ## What a body spells -/

theorem bodyOf_eq {α : Type} {body : List Byte} {len : Nat} {ok : Bool} {value : α} (hl : body.length = len)
    (hok : ok = true) : bodyOf body len ok value = some value := by
  simp [bodyOf, hl, hok]

theorem bodyOf_length {α : Type} {body : List Byte} {len : Nat} {ok : Bool} {value : α} (hl : body.length ≠ len) :
    bodyOf body len ok value = none := by
  simp [bodyOf, hl]

theorem cardInRange_eq {card : Nat} (h1 : 1 ≤ card) (h2 : card ≤ 99999999) : cardInRange card = true := by
  simp [cardInRange, h1, h2]

theorem classIndex_val (c : Fin 8) : classIndex c.val = some c := by
  simp [classIndex, c.isLt]

theorem emptyBody_spelled : emptyBody [] = some () := rfl

theorem cardBody_spelled {card : Nat} (h1 : 1 ≤ card) (h2 : card ≤ 99999999) : cardBody (leBytes 4 card) = some card := by
  have hf : field (leBytes 4 card) 0 4 = card := field_leBytes (by omega)
  unfold cardBody
  rw [hf]
  exact bodyOf_eq (leBytes_length _ _) (cardInRange_eq h1 h2)

theorem read_bal_spelled {card : Nat} (h1 : 1 ≤ card) (h2 : card ≤ 99999999) :
    RequestKind.bal.read (leBytes 4 card) = some (card, 0) := by
  have hf : field (leBytes 4 card) 0 4 = card := field_leBytes (by omega)
  have hg : field (leBytes 4 card) 4 3 = 0 := by
    unfold field
    rw [List.drop_of_length_le (by rw [leBytes_length])]
    rfl
  unfold RequestKind.read
  rw [hf, hg]
  exact bodyOf_eq (leBytes_length _ _) (by simp [cardInRange_eq h1 h2, RequestKind.amountGood])

theorem read_drop_spelled {card : Nat} (h1 : 1 ≤ card) (h2 : card ≤ 99999999) :
    RequestKind.drop.read (leBytes 4 card) = some (card, 0) := by
  have hf : field (leBytes 4 card) 0 4 = card := field_leBytes (by omega)
  have hg : field (leBytes 4 card) 4 3 = 0 := by
    unfold field
    rw [List.drop_of_length_le (by rw [leBytes_length])]
    rfl
  unfold RequestKind.read
  rw [hf, hg]
  exact bodyOf_eq (leBytes_length _ _) (by simp [cardInRange_eq h1 h2, RequestKind.amountGood])

/-- The two fields of a card and a 3-byte amount. -/
theorem cardAmount_fields {card amount : Nat} (h2 : card ≤ 99999999) (ha : amount < 16777216) :
    field (leBytes 4 card ++ leBytes 3 amount) 0 4 = card ∧ field (leBytes 4 card ++ leBytes 3 amount) 4 3 = amount :=
  ⟨field_first (by omega), by rw [field_behind (by omega)]; exact field_leBytes (by omega)⟩

/-- A body of a card and an amount, for the kinds that have both. -/
theorem read_amount_spelled {k : RequestKind} {card amount : Nat} (hk : k.bodyLength = 7) (h1 : 1 ≤ card)
    (h2 : card ≤ 99999999) (ha : amount < 16777216) (hg : k.amountGood amount = true) :
    k.read (leBytes 4 card ++ leBytes 3 amount) = some (card, amount) := by
  obtain ⟨hf, hm⟩ := cardAmount_fields h2 ha
  unfold RequestKind.read
  rw [hf, hm, hk]
  exact bodyOf_eq (by simp [leBytes_length]) (by simp [cardInRange_eq h1 h2, hg])

theorem creditBody_spelled {card amount : Nat} (h1 : 1 ≤ card) (h2 : card ≤ 99999999) (ha : amount < 16777216) :
    creditBody (leBytes 4 card ++ leBytes 3 amount) = some (card, amount) := by
  obtain ⟨hf, hm⟩ := cardAmount_fields h2 ha
  unfold creditBody
  rw [hf, hm]
  exact bodyOf_eq (by simp [leBytes_length]) (cardInRange_eq h1 h2)

theorem enrolBody_spelled {card opening : Nat} {cls : Fin 8} (h1 : 1 ≤ card) (h2 : card ≤ 99999999)
    (ho : opening < 16777216) :
    enrolBody (leBytes 4 card ++ leBytes 1 cls.val ++ leBytes 3 opening) = some (card, cls, opening) := by
  have hc := cls.isLt
  have hf : field (leBytes 4 card ++ (leBytes 1 cls.val ++ leBytes 3 opening)) 0 4 = card := field_first (by omega)
  have hg : field (leBytes 4 card ++ (leBytes 1 cls.val ++ leBytes 3 opening)) 4 1 = cls.val := by
    rw [field_behind (by omega)]; exact field_first (by omega)
  have hm : field (leBytes 4 card ++ (leBytes 1 cls.val ++ leBytes 3 opening)) 5 3 = opening := by
    rw [field_behind (by omega), field_behind (by omega)]; exact field_leBytes (by omega)
  unfold enrolBody
  rw [List.append_assoc, hf, hg, hm, classIndex_val]
  exact bodyOf_eq (by simp [leBytes_length]) (cardInRange_eq h1 h2)

theorem reclassBody_spelled {card : Nat} {cls : Fin 8} (h1 : 1 ≤ card) (h2 : card ≤ 99999999) :
    reclassBody (leBytes 4 card ++ leBytes 1 cls.val) = some (card, cls) := by
  have hc := cls.isLt
  have hf : field (leBytes 4 card ++ leBytes 1 cls.val) 0 4 = card := field_first (by omega)
  have hg : field (leBytes 4 card ++ leBytes 1 cls.val) 4 1 = cls.val := by
    rw [field_behind (by omega)]; exact field_leBytes (by omega)
  unfold reclassBody
  rw [hf, hg, classIndex_val]
  exact bodyOf_eq (by simp [leBytes_length]) (cardInRange_eq h1 h2)

theorem adjustBody_spelled {card : Nat} {amount : Int} (h1 : 1 ≤ card) (h2 : card ≤ 99999999)
    (hl : -2147483648 ≤ amount) (hu : amount < 2147483648) :
    adjustBody (leBytes 4 card ++ leBytesInt 4 amount) = some (card, amount) := by
  have hf : field (leBytes 4 card ++ leBytesInt 4 amount) 0 4 = card := field_first (by omega)
  have hg : signedField (leBytes 4 card ++ leBytesInt 4 amount) 4 4 = amount := by
    rw [signedField_behind (by omega)]; exact signedField_leBytesInt (by norm_num; omega) (by norm_num; omega)
  unfold adjustBody
  rw [hf, hg]
  exact bodyOf_eq (by simp [leBytes_length, leBytesInt_length]) (cardInRange_eq h1 h2)

theorem purseNextBody_spelled {card : Nat} (h2 : card ≤ 99999999) : purseNextBody (leBytes 4 card) = some card := by
  have hf : field (leBytes 4 card) 0 4 = card := field_leBytes (by omega)
  unfold purseNextBody
  rw [hf]
  exact bodyOf_eq (leBytes_length _ _) (decide_eq_true h2)

/-- The fields of a CLASS_SET body in the order of R181. -/
theorem classSetBody_spelled {cls : Fin 8} {rate cap dayLimit ceiling : Nat} {floor : Int} (hr : rate < 65536)
    (hc : cap < 65536) (hfl : -32768 ≤ floor) (hfu : floor < 32768) (hd : dayLimit < 16777216) (hh : ceiling < 16777216) :
    classSetBody (leBytes 1 cls.val ++ leBytes 2 rate ++ leBytes 2 cap ++ leBytesInt 2 floor ++ leBytes 3 dayLimit
        ++ leBytes 3 ceiling) =
      some (cls, { rate := rate, cap := cap, floor := floor, dayLimit := dayLimit, holdCeiling := ceiling }) := by
  have hcl := cls.isLt
  simp only [List.append_assoc]
  have e0 := field_first (k := 1) (n := cls.val)
    (b := leBytes 2 rate ++ (leBytes 2 cap ++ (leBytesInt 2 floor ++ (leBytes 3 dayLimit ++ leBytes 3 ceiling)))) (by omega)
  unfold classSetBody
  rw [e0, classIndex_val, Option.bind_some, bodyOf_eq (by simp [leBytes_length, leBytesInt_length]) (Eq.refl true)]
  have e1 := field_first (k := 2) (n := rate)
    (b := leBytes 2 cap ++ (leBytesInt 2 floor ++ (leBytes 3 dayLimit ++ leBytes 3 ceiling))) (by omega)
  have e2 := field_first (k := 2) (n := cap)
    (b := leBytesInt 2 floor ++ (leBytes 3 dayLimit ++ leBytes 3 ceiling)) (by omega)
  have e3 : signedField (leBytesInt 2 floor ++ (leBytes 3 dayLimit ++ leBytes 3 ceiling)) 0 2 = floor := by
    rw [signedField_append_left (by rw [leBytesInt_length])]
    exact signedField_leBytesInt (by norm_num; omega) (by norm_num; omega)
  have e4 := field_first (k := 3) (n := dayLimit) (b := leBytes 3 ceiling) (by omega)
  have e5 := field_leBytes (k := 3) (n := ceiling) (by omega)
  simp only [field_behind (show 1 ≤ 1 by omega), field_behind (show 1 ≤ 3 by omega), signedField_behind (show 1 ≤ 5 by omega),
    field_behind (show 1 ≤ 7 by omega), field_behind (show 1 ≤ 10 by omega), Nat.reduceSub,
    field_behind (show 2 ≤ 2 by omega), signedField_behind (show 2 ≤ 4 by omega), field_behind (show 2 ≤ 6 by omega),
    field_behind (show 2 ≤ 9 by omega), signedField_behind (show 2 ≤ 2 by omega), field_behind (show 2 ≤ 4 by omega),
    field_behind (show 2 ≤ 7 by omega), field_behindInt (show 2 ≤ 2 by omega), field_behindInt (show 2 ≤ 5 by omega),
    field_behind (show 3 ≤ 3 by omega), e1, e2, e3, e4, e5]

theorem batchOpenBody_spelled {batchId count total : Nat} (h0 : batchId ≠ 0) (hi : batchId < 65536) (hc : count < 65536)
    (ht : total < 4294967296) :
    batchOpenBody (leBytes 2 batchId ++ leBytes 2 count ++ leBytes 4 total) = some (batchId, count, total) := by
  have hf : field (leBytes 2 batchId ++ (leBytes 2 count ++ leBytes 4 total)) 0 2 = batchId := field_first (by omega)
  have hg : field (leBytes 2 batchId ++ (leBytes 2 count ++ leBytes 4 total)) 2 2 = count := by
    rw [field_behind (by omega)]; exact field_first (by omega)
  have hm : field (leBytes 2 batchId ++ (leBytes 2 count ++ leBytes 4 total)) 4 4 = total := by
    rw [field_behind (by omega), field_behind (by omega)]; exact field_leBytes (by omega)
  unfold batchOpenBody
  rw [List.append_assoc, hf, hg, hm]
  exact bodyOf_eq (by simp [leBytes_length]) (decide_eq_true h0)

theorem batchResultBody_spelled {index : Nat} (h : index ≤ 512) : batchResultBody (leBytes 2 index) = some index := by
  have hf : field (leBytes 2 index) 0 2 = index := field_leBytes (by omega)
  unfold batchResultBody
  rw [hf]
  exact bodyOf_eq (leBytes_length _ _) (decide_eq_true h)

theorem clockSetBody_spelled {day minute second : Nat} (hd : day < 65536) (hm : minute < 1440) (hs : second < 60) :
    clockSetBody (leBytes 2 day ++ leBytes 2 minute ++ leBytes 1 second) = some (day, minute, second) := by
  have hf : field (leBytes 2 day ++ (leBytes 2 minute ++ leBytes 1 second)) 0 2 = day := field_first (by omega)
  have hg : field (leBytes 2 day ++ (leBytes 2 minute ++ leBytes 1 second)) 2 2 = minute := by
    rw [field_behind (by omega)]; exact field_first (by omega)
  have hn : field (leBytes 2 day ++ (leBytes 2 minute ++ leBytes 1 second)) 4 1 = second := by
    rw [field_behind (by omega), field_behind (by omega)]; exact field_leBytes (by omega)
  unfold clockSetBody
  rw [List.append_assoc, hf, hg, hn]
  exact bodyOf_eq (by simp [leBytes_length]) (by simp [hm, hs])

theorem rolloverSetBody_spelled {minute : Nat} {flag : Bool} (hm : minute < 1440) :
    rolloverSetBody (leBytes 2 minute ++ [boolByte flag]) = some (minute, flag) := by
  have hb : ([boolByte flag] : List Byte) = leBytes 1 flag.toNat := by cases flag <;> rfl
  have hn : flag.toNat ≤ 1 := by cases flag <;> simp
  have hf : field (leBytes 2 minute ++ leBytes 1 flag.toNat) 0 2 = minute := field_first (by omega)
  have hg : field (leBytes 2 minute ++ leBytes 1 flag.toNat) 2 1 = flag.toNat := by
    rw [field_behind (by omega)]; exact field_leBytes (by omega)
  unfold rolloverSetBody
  rw [hb, hf, hg, bodyOf_eq (by simp [leBytes_length]) (by simp [hm, hn])]
  cases flag <;> rfl

theorem stationKind_ofCode (k : StationKind) : StationKind.ofCode k.code.toNat = some k := by
  cases k <;> rfl

theorem stationSetBody_spelled {station : Nat} {kind : StationKind} {quota lifetime : Nat} (h1 : 1 ≤ station)
    (h2 : station ≤ 14) (hq : quota < 256) (hl : lifetime < 65536) :
    stationSetBody (leBytes 1 station ++ [kind.code] ++ leBytes 1 quota ++ leBytes 2 lifetime) =
      some (station, { kind := kind, quota := quota, lifetime := lifetime }) := by
  have hb : ([kind.code] : List Byte) = leBytes 1 kind.code.toNat := by cases kind <;> rfl
  have hk : kind.code.toNat < 256 := kind.code.isLt
  simp only [hb, List.append_assoc]
  have e0 := field_first (k := 1) (n := station)
    (b := leBytes 1 kind.code.toNat ++ (leBytes 1 quota ++ leBytes 2 lifetime)) (by omega)
  have e1 := field_first (k := 1) (n := kind.code.toNat) (b := leBytes 1 quota ++ leBytes 2 lifetime) (by omega)
  have e2 := field_first (k := 1) (n := quota) (b := leBytes 2 lifetime) (by omega)
  have e3 := field_leBytes (k := 2) (n := lifetime) (by omega)
  unfold stationSetBody
  simp only [field_behind (show 1 ≤ 1 by omega), field_behind (show 1 ≤ 2 by omega), field_behind (show 1 ≤ 3 by omega),
    Nat.reduceSub, e0, e1, e2, e3, stationKind_ofCode, Option.bind_some]
  exact bodyOf_eq (by simp [leBytes_length]) (by simp [h1, h2])

theorem journalSetBody_spelled {mark reload : Nat} (hm : mark < 65536) (hr : reload < 256) :
    journalSetBody (leBytes 2 mark ++ leBytes 1 reload) = some (mark, reload) := by
  have hf : field (leBytes 2 mark ++ leBytes 1 reload) 0 2 = mark := field_first (by omega)
  have hg : field (leBytes 2 mark ++ leBytes 1 reload) 2 1 = reload := by
    rw [field_behind (by omega)]; exact field_leBytes (by omega)
  unfold journalSetBody
  rw [hf, hg]
  exact bodyOf_eq (by simp [leBytes_length]) rfl

theorem laneRateBody_spelled {code : Nat} (h : code < 65536) : laneRateBody (leBytes 2 code) = some code := by
  have hf : field (leBytes 2 code) 0 2 = code := field_leBytes (by omega)
  unfold laneRateBody
  rw [hf]
  exact bodyOf_eq (leBytes_length _ _) rfl

theorem freezeBody_spelled {limit : Nat} (h : limit < 256) : freezeBody (leBytes 1 limit) = some limit := by
  have hf : field (leBytes 1 limit) 0 1 = limit := field_leBytes (by omega)
  unfold freezeBody
  rw [hf]
  exact bodyOf_eq (leBytes_length _ _) rfl

theorem jnlConfirmBody_spelled {seq : Nat} (h0 : seq ≠ 0) (h : seq < 4294967296) :
    jnlConfirmBody (leBytes 4 seq) = some seq := by
  have hf : field (leBytes 4 seq) 0 4 = seq := field_leBytes (by omega)
  unfold jnlConfirmBody
  rw [hf]
  exact bodyOf_eq (leBytes_length _ _) (decide_eq_true h0)

theorem watchSetBody_spelled {entry card : Nat} (he : entry ≤ 3) (hc : card ≤ 99999999) :
    watchSetBody (leBytes 1 entry ++ leBytes 4 card) = some (entry, card) := by
  have hf : field (leBytes 1 entry ++ leBytes 4 card) 0 1 = entry := field_first (by omega)
  have hg : field (leBytes 1 entry ++ leBytes 4 card) 1 4 = card := by
    rw [field_behind (by omega)]; exact field_leBytes (by omega)
  unfold watchSetBody
  rw [hf, hg]
  exact bodyOf_eq (by simp [leBytes_length]) (by simp [he, hc])

theorem statusBody_spelled {page part : Nat} (hp : page < 256) (h : part < statusParts page) :
    statusBody (leBytes 1 page ++ leBytes 1 part) = some (page, part) := by
  have h5 : statusParts page ≤ 5 := by unfold statusParts; split_ifs <;> omega
  have hf : field (leBytes 1 page ++ leBytes 1 part) 0 1 = page := field_first (by omega)
  have hg : field (leBytes 1 page ++ leBytes 1 part) 1 1 = part := by
    rw [field_behind (by omega)]; exact field_leBytes (by omega)
  unfold statusBody
  rw [hf, hg]
  exact bodyOf_eq (by simp [leBytes_length]) (decide_eq_true h)

end Sys2Proof.Machine
end

