-- ==== Sys2Proof/Laws/State.lean ====
section
/-! SUPPORT. One lemma for each field of the state after each write of one block's state, so that no proof unfolds a record
update. -/

namespace Sys2Proof.Machine

/-! ## After a write of `purses` -/

@[simp] theorem State.setPurses_purses (s : State) (p : PurseStore) : (s.setPurses p).purses = p := rfl
@[simp] theorem State.setPurses_time (s : State) (p : PurseStore) : (s.setPurses p).time = s.time := rfl
@[simp] theorem State.setPurses_holds (s : State) (p : PurseStore) : (s.setPurses p).holds = s.holds := rfl
@[simp] theorem State.setPurses_credit (s : State) (p : PurseStore) : (s.setPurses p).credit = s.credit := rfl
@[simp] theorem State.setPurses_journal (s : State) (p : PurseStore) : (s.setPurses p).journal = s.journal := rfl
@[simp] theorem State.setPurses_lane (s : State) (p : PurseStore) : (s.setPurses p).lane = s.lane := rfl
@[simp] theorem State.setPurses_port (s : State) (p : PurseStore) : (s.setPurses p).port = s.port := rfl
@[simp] theorem State.setPurses_office (s : State) (p : PurseStore) : (s.setPurses p).office = s.office := rfl
@[simp] theorem State.setPurses_engine (s : State) (p : PurseStore) : (s.setPurses p).engine = s.engine := rfl
@[simp] theorem State.setPurses_attention (s : State) (p : PurseStore) : (s.setPurses p).attention = s.attention := rfl
@[simp] theorem State.setPurses_supply (s : State) (p : PurseStore) : (s.setPurses p).supply = s.supply := rfl
@[simp] theorem State.setPurses_ticks (s : State) (p : PurseStore) : (s.setPurses p).ticks = s.ticks := rfl
@[simp] theorem State.setPurses_openChoices (s : State) (p : PurseStore) : (s.setPurses p).openChoices = s.openChoices := rfl
@[simp] theorem State.setPurses_pending (s : State) (p : PurseStore) : (s.setPurses p).pending = s.pending := rfl

/-! ## After a write of `time` -/

@[simp] theorem State.setTime_purses (s : State) (t : TimeUnit) : (s.setTime t).purses = s.purses := rfl
@[simp] theorem State.setTime_time (s : State) (t : TimeUnit) : (s.setTime t).time = t := rfl
@[simp] theorem State.setTime_holds (s : State) (t : TimeUnit) : (s.setTime t).holds = s.holds := rfl
@[simp] theorem State.setTime_credit (s : State) (t : TimeUnit) : (s.setTime t).credit = s.credit := rfl
@[simp] theorem State.setTime_journal (s : State) (t : TimeUnit) : (s.setTime t).journal = s.journal := rfl
@[simp] theorem State.setTime_lane (s : State) (t : TimeUnit) : (s.setTime t).lane = s.lane := rfl
@[simp] theorem State.setTime_port (s : State) (t : TimeUnit) : (s.setTime t).port = s.port := rfl
@[simp] theorem State.setTime_office (s : State) (t : TimeUnit) : (s.setTime t).office = s.office := rfl
@[simp] theorem State.setTime_engine (s : State) (t : TimeUnit) : (s.setTime t).engine = s.engine := rfl
@[simp] theorem State.setTime_attention (s : State) (t : TimeUnit) : (s.setTime t).attention = s.attention := rfl
@[simp] theorem State.setTime_supply (s : State) (t : TimeUnit) : (s.setTime t).supply = s.supply := rfl
@[simp] theorem State.setTime_ticks (s : State) (t : TimeUnit) : (s.setTime t).ticks = s.ticks := rfl
@[simp] theorem State.setTime_openChoices (s : State) (t : TimeUnit) : (s.setTime t).openChoices = s.openChoices := rfl
@[simp] theorem State.setTime_pending (s : State) (t : TimeUnit) : (s.setTime t).pending = s.pending := rfl

/-! ## After a write of `holds` -/

@[simp] theorem State.setHolds_purses (s : State) (h : HoldUnit) : (s.setHolds h).purses = s.purses := rfl
@[simp] theorem State.setHolds_time (s : State) (h : HoldUnit) : (s.setHolds h).time = s.time := rfl
@[simp] theorem State.setHolds_holds (s : State) (h : HoldUnit) : (s.setHolds h).holds = h := rfl
@[simp] theorem State.setHolds_credit (s : State) (h : HoldUnit) : (s.setHolds h).credit = s.credit := rfl
@[simp] theorem State.setHolds_journal (s : State) (h : HoldUnit) : (s.setHolds h).journal = s.journal := rfl
@[simp] theorem State.setHolds_lane (s : State) (h : HoldUnit) : (s.setHolds h).lane = s.lane := rfl
@[simp] theorem State.setHolds_port (s : State) (h : HoldUnit) : (s.setHolds h).port = s.port := rfl
@[simp] theorem State.setHolds_office (s : State) (h : HoldUnit) : (s.setHolds h).office = s.office := rfl
@[simp] theorem State.setHolds_engine (s : State) (h : HoldUnit) : (s.setHolds h).engine = s.engine := rfl
@[simp] theorem State.setHolds_attention (s : State) (h : HoldUnit) : (s.setHolds h).attention = s.attention := rfl
@[simp] theorem State.setHolds_supply (s : State) (h : HoldUnit) : (s.setHolds h).supply = s.supply := rfl
@[simp] theorem State.setHolds_ticks (s : State) (h : HoldUnit) : (s.setHolds h).ticks = s.ticks := rfl
@[simp] theorem State.setHolds_openChoices (s : State) (h : HoldUnit) : (s.setHolds h).openChoices = s.openChoices := rfl
@[simp] theorem State.setHolds_pending (s : State) (h : HoldUnit) : (s.setHolds h).pending = s.pending := rfl

/-! ## After a write of `credit` -/

@[simp] theorem State.setCredit_purses (s : State) (c : CreditUnit) : (s.setCredit c).purses = s.purses := rfl
@[simp] theorem State.setCredit_time (s : State) (c : CreditUnit) : (s.setCredit c).time = s.time := rfl
@[simp] theorem State.setCredit_holds (s : State) (c : CreditUnit) : (s.setCredit c).holds = s.holds := rfl
@[simp] theorem State.setCredit_credit (s : State) (c : CreditUnit) : (s.setCredit c).credit = c := rfl
@[simp] theorem State.setCredit_journal (s : State) (c : CreditUnit) : (s.setCredit c).journal = s.journal := rfl
@[simp] theorem State.setCredit_lane (s : State) (c : CreditUnit) : (s.setCredit c).lane = s.lane := rfl
@[simp] theorem State.setCredit_port (s : State) (c : CreditUnit) : (s.setCredit c).port = s.port := rfl
@[simp] theorem State.setCredit_office (s : State) (c : CreditUnit) : (s.setCredit c).office = s.office := rfl
@[simp] theorem State.setCredit_engine (s : State) (c : CreditUnit) : (s.setCredit c).engine = s.engine := rfl
@[simp] theorem State.setCredit_attention (s : State) (c : CreditUnit) : (s.setCredit c).attention = s.attention := rfl
@[simp] theorem State.setCredit_supply (s : State) (c : CreditUnit) : (s.setCredit c).supply = s.supply := rfl
@[simp] theorem State.setCredit_ticks (s : State) (c : CreditUnit) : (s.setCredit c).ticks = s.ticks := rfl
@[simp] theorem State.setCredit_openChoices (s : State) (c : CreditUnit) : (s.setCredit c).openChoices = s.openChoices := rfl
@[simp] theorem State.setCredit_pending (s : State) (c : CreditUnit) : (s.setCredit c).pending = s.pending := rfl

/-! ## After a write of `journal` -/

@[simp] theorem State.setJournal_purses (s : State) (j : Journal) : (s.setJournal j).purses = s.purses := rfl
@[simp] theorem State.setJournal_time (s : State) (j : Journal) : (s.setJournal j).time = s.time := rfl
@[simp] theorem State.setJournal_holds (s : State) (j : Journal) : (s.setJournal j).holds = s.holds := rfl
@[simp] theorem State.setJournal_credit (s : State) (j : Journal) : (s.setJournal j).credit = s.credit := rfl
@[simp] theorem State.setJournal_journal (s : State) (j : Journal) : (s.setJournal j).journal = j := rfl
@[simp] theorem State.setJournal_lane (s : State) (j : Journal) : (s.setJournal j).lane = s.lane := rfl
@[simp] theorem State.setJournal_port (s : State) (j : Journal) : (s.setJournal j).port = s.port := rfl
@[simp] theorem State.setJournal_office (s : State) (j : Journal) : (s.setJournal j).office = s.office := rfl
@[simp] theorem State.setJournal_engine (s : State) (j : Journal) : (s.setJournal j).engine = s.engine := rfl
@[simp] theorem State.setJournal_attention (s : State) (j : Journal) : (s.setJournal j).attention = s.attention := rfl
@[simp] theorem State.setJournal_supply (s : State) (j : Journal) : (s.setJournal j).supply = s.supply := rfl
@[simp] theorem State.setJournal_ticks (s : State) (j : Journal) : (s.setJournal j).ticks = s.ticks := rfl
@[simp] theorem State.setJournal_openChoices (s : State) (j : Journal) : (s.setJournal j).openChoices = s.openChoices := rfl
@[simp] theorem State.setJournal_pending (s : State) (j : Journal) : (s.setJournal j).pending = s.pending := rfl

/-! ## After a write of `lane` -/

@[simp] theorem State.setLane_purses (s : State) (l : LaneUnit) : (s.setLane l).purses = s.purses := rfl
@[simp] theorem State.setLane_time (s : State) (l : LaneUnit) : (s.setLane l).time = s.time := rfl
@[simp] theorem State.setLane_holds (s : State) (l : LaneUnit) : (s.setLane l).holds = s.holds := rfl
@[simp] theorem State.setLane_credit (s : State) (l : LaneUnit) : (s.setLane l).credit = s.credit := rfl
@[simp] theorem State.setLane_journal (s : State) (l : LaneUnit) : (s.setLane l).journal = s.journal := rfl
@[simp] theorem State.setLane_lane (s : State) (l : LaneUnit) : (s.setLane l).lane = l := rfl
@[simp] theorem State.setLane_port (s : State) (l : LaneUnit) : (s.setLane l).port = s.port := rfl
@[simp] theorem State.setLane_office (s : State) (l : LaneUnit) : (s.setLane l).office = s.office := rfl
@[simp] theorem State.setLane_engine (s : State) (l : LaneUnit) : (s.setLane l).engine = s.engine := rfl
@[simp] theorem State.setLane_attention (s : State) (l : LaneUnit) : (s.setLane l).attention = s.attention := rfl
@[simp] theorem State.setLane_supply (s : State) (l : LaneUnit) : (s.setLane l).supply = s.supply := rfl
@[simp] theorem State.setLane_ticks (s : State) (l : LaneUnit) : (s.setLane l).ticks = s.ticks := rfl
@[simp] theorem State.setLane_openChoices (s : State) (l : LaneUnit) : (s.setLane l).openChoices = s.openChoices := rfl
@[simp] theorem State.setLane_pending (s : State) (l : LaneUnit) : (s.setLane l).pending = s.pending := rfl

/-! ## After a write of `port` -/

@[simp] theorem State.setPort_purses (s : State) (p : LanePort) : (s.setPort p).purses = s.purses := rfl
@[simp] theorem State.setPort_time (s : State) (p : LanePort) : (s.setPort p).time = s.time := rfl
@[simp] theorem State.setPort_holds (s : State) (p : LanePort) : (s.setPort p).holds = s.holds := rfl
@[simp] theorem State.setPort_credit (s : State) (p : LanePort) : (s.setPort p).credit = s.credit := rfl
@[simp] theorem State.setPort_journal (s : State) (p : LanePort) : (s.setPort p).journal = s.journal := rfl
@[simp] theorem State.setPort_lane (s : State) (p : LanePort) : (s.setPort p).lane = s.lane := rfl
@[simp] theorem State.setPort_port (s : State) (p : LanePort) : (s.setPort p).port = p := rfl
@[simp] theorem State.setPort_office (s : State) (p : LanePort) : (s.setPort p).office = s.office := rfl
@[simp] theorem State.setPort_engine (s : State) (p : LanePort) : (s.setPort p).engine = s.engine := rfl
@[simp] theorem State.setPort_attention (s : State) (p : LanePort) : (s.setPort p).attention = s.attention := rfl
@[simp] theorem State.setPort_supply (s : State) (p : LanePort) : (s.setPort p).supply = s.supply := rfl
@[simp] theorem State.setPort_ticks (s : State) (p : LanePort) : (s.setPort p).ticks = s.ticks := rfl
@[simp] theorem State.setPort_openChoices (s : State) (p : LanePort) : (s.setPort p).openChoices = s.openChoices := rfl
@[simp] theorem State.setPort_pending (s : State) (p : LanePort) : (s.setPort p).pending = s.pending := rfl

/-! ## After a write of `office` -/

@[simp] theorem State.setOffice_purses (s : State) (o : OfficePort) : (s.setOffice o).purses = s.purses := rfl
@[simp] theorem State.setOffice_time (s : State) (o : OfficePort) : (s.setOffice o).time = s.time := rfl
@[simp] theorem State.setOffice_holds (s : State) (o : OfficePort) : (s.setOffice o).holds = s.holds := rfl
@[simp] theorem State.setOffice_credit (s : State) (o : OfficePort) : (s.setOffice o).credit = s.credit := rfl
@[simp] theorem State.setOffice_journal (s : State) (o : OfficePort) : (s.setOffice o).journal = s.journal := rfl
@[simp] theorem State.setOffice_lane (s : State) (o : OfficePort) : (s.setOffice o).lane = s.lane := rfl
@[simp] theorem State.setOffice_port (s : State) (o : OfficePort) : (s.setOffice o).port = s.port := rfl
@[simp] theorem State.setOffice_office (s : State) (o : OfficePort) : (s.setOffice o).office = o := rfl
@[simp] theorem State.setOffice_engine (s : State) (o : OfficePort) : (s.setOffice o).engine = s.engine := rfl
@[simp] theorem State.setOffice_attention (s : State) (o : OfficePort) : (s.setOffice o).attention = s.attention := rfl
@[simp] theorem State.setOffice_supply (s : State) (o : OfficePort) : (s.setOffice o).supply = s.supply := rfl
@[simp] theorem State.setOffice_ticks (s : State) (o : OfficePort) : (s.setOffice o).ticks = s.ticks := rfl
@[simp] theorem State.setOffice_openChoices (s : State) (o : OfficePort) : (s.setOffice o).openChoices = s.openChoices := rfl
@[simp] theorem State.setOffice_pending (s : State) (o : OfficePort) : (s.setOffice o).pending = s.pending := rfl

/-! ## After a write of `engine` -/

@[simp] theorem State.setEngine_purses (s : State) (e : EngineControl) : (s.setEngine e).purses = s.purses := rfl
@[simp] theorem State.setEngine_time (s : State) (e : EngineControl) : (s.setEngine e).time = s.time := rfl
@[simp] theorem State.setEngine_holds (s : State) (e : EngineControl) : (s.setEngine e).holds = s.holds := rfl
@[simp] theorem State.setEngine_credit (s : State) (e : EngineControl) : (s.setEngine e).credit = s.credit := rfl
@[simp] theorem State.setEngine_journal (s : State) (e : EngineControl) : (s.setEngine e).journal = s.journal := rfl
@[simp] theorem State.setEngine_lane (s : State) (e : EngineControl) : (s.setEngine e).lane = s.lane := rfl
@[simp] theorem State.setEngine_port (s : State) (e : EngineControl) : (s.setEngine e).port = s.port := rfl
@[simp] theorem State.setEngine_office (s : State) (e : EngineControl) : (s.setEngine e).office = s.office := rfl
@[simp] theorem State.setEngine_engine (s : State) (e : EngineControl) : (s.setEngine e).engine = e := rfl
@[simp] theorem State.setEngine_attention (s : State) (e : EngineControl) : (s.setEngine e).attention = s.attention := rfl
@[simp] theorem State.setEngine_supply (s : State) (e : EngineControl) : (s.setEngine e).supply = s.supply := rfl
@[simp] theorem State.setEngine_ticks (s : State) (e : EngineControl) : (s.setEngine e).ticks = s.ticks := rfl
@[simp] theorem State.setEngine_openChoices (s : State) (e : EngineControl) : (s.setEngine e).openChoices = s.openChoices := rfl
@[simp] theorem State.setEngine_pending (s : State) (e : EngineControl) : (s.setEngine e).pending = s.pending := rfl

/-! ## After a write of `attention` -/

@[simp] theorem State.setAttention_purses (s : State) (a : AttentionUnit) : (s.setAttention a).purses = s.purses := rfl
@[simp] theorem State.setAttention_time (s : State) (a : AttentionUnit) : (s.setAttention a).time = s.time := rfl
@[simp] theorem State.setAttention_holds (s : State) (a : AttentionUnit) : (s.setAttention a).holds = s.holds := rfl
@[simp] theorem State.setAttention_credit (s : State) (a : AttentionUnit) : (s.setAttention a).credit = s.credit := rfl
@[simp] theorem State.setAttention_journal (s : State) (a : AttentionUnit) : (s.setAttention a).journal = s.journal := rfl
@[simp] theorem State.setAttention_lane (s : State) (a : AttentionUnit) : (s.setAttention a).lane = s.lane := rfl
@[simp] theorem State.setAttention_port (s : State) (a : AttentionUnit) : (s.setAttention a).port = s.port := rfl
@[simp] theorem State.setAttention_office (s : State) (a : AttentionUnit) : (s.setAttention a).office = s.office := rfl
@[simp] theorem State.setAttention_engine (s : State) (a : AttentionUnit) : (s.setAttention a).engine = s.engine := rfl
@[simp] theorem State.setAttention_attention (s : State) (a : AttentionUnit) : (s.setAttention a).attention = a := rfl
@[simp] theorem State.setAttention_supply (s : State) (a : AttentionUnit) : (s.setAttention a).supply = s.supply := rfl
@[simp] theorem State.setAttention_ticks (s : State) (a : AttentionUnit) : (s.setAttention a).ticks = s.ticks := rfl
@[simp] theorem State.setAttention_openChoices (s : State) (a : AttentionUnit) : (s.setAttention a).openChoices = s.openChoices := rfl
@[simp] theorem State.setAttention_pending (s : State) (a : AttentionUnit) : (s.setAttention a).pending = s.pending := rfl

/-! ## After a write of `supply` -/

@[simp] theorem State.setSupply_purses (s : State) (v : Supply) : (s.setSupply v).purses = s.purses := rfl
@[simp] theorem State.setSupply_time (s : State) (v : Supply) : (s.setSupply v).time = s.time := rfl
@[simp] theorem State.setSupply_holds (s : State) (v : Supply) : (s.setSupply v).holds = s.holds := rfl
@[simp] theorem State.setSupply_credit (s : State) (v : Supply) : (s.setSupply v).credit = s.credit := rfl
@[simp] theorem State.setSupply_journal (s : State) (v : Supply) : (s.setSupply v).journal = s.journal := rfl
@[simp] theorem State.setSupply_lane (s : State) (v : Supply) : (s.setSupply v).lane = s.lane := rfl
@[simp] theorem State.setSupply_port (s : State) (v : Supply) : (s.setSupply v).port = s.port := rfl
@[simp] theorem State.setSupply_office (s : State) (v : Supply) : (s.setSupply v).office = s.office := rfl
@[simp] theorem State.setSupply_engine (s : State) (v : Supply) : (s.setSupply v).engine = s.engine := rfl
@[simp] theorem State.setSupply_attention (s : State) (v : Supply) : (s.setSupply v).attention = s.attention := rfl
@[simp] theorem State.setSupply_supply (s : State) (v : Supply) : (s.setSupply v).supply = v := rfl
@[simp] theorem State.setSupply_ticks (s : State) (v : Supply) : (s.setSupply v).ticks = s.ticks := rfl
@[simp] theorem State.setSupply_openChoices (s : State) (v : Supply) : (s.setSupply v).openChoices = s.openChoices := rfl
@[simp] theorem State.setSupply_pending (s : State) (v : Supply) : (s.setSupply v).pending = s.pending := rfl

/-! ## After a write of `ticks` -/

@[simp] theorem State.setTicks_purses (s : State) (t : TickDue) : (s.setTicks t).purses = s.purses := rfl
@[simp] theorem State.setTicks_time (s : State) (t : TickDue) : (s.setTicks t).time = s.time := rfl
@[simp] theorem State.setTicks_holds (s : State) (t : TickDue) : (s.setTicks t).holds = s.holds := rfl
@[simp] theorem State.setTicks_credit (s : State) (t : TickDue) : (s.setTicks t).credit = s.credit := rfl
@[simp] theorem State.setTicks_journal (s : State) (t : TickDue) : (s.setTicks t).journal = s.journal := rfl
@[simp] theorem State.setTicks_lane (s : State) (t : TickDue) : (s.setTicks t).lane = s.lane := rfl
@[simp] theorem State.setTicks_port (s : State) (t : TickDue) : (s.setTicks t).port = s.port := rfl
@[simp] theorem State.setTicks_office (s : State) (t : TickDue) : (s.setTicks t).office = s.office := rfl
@[simp] theorem State.setTicks_engine (s : State) (t : TickDue) : (s.setTicks t).engine = s.engine := rfl
@[simp] theorem State.setTicks_attention (s : State) (t : TickDue) : (s.setTicks t).attention = s.attention := rfl
@[simp] theorem State.setTicks_supply (s : State) (t : TickDue) : (s.setTicks t).supply = s.supply := rfl
@[simp] theorem State.setTicks_ticks (s : State) (t : TickDue) : (s.setTicks t).ticks = t := rfl
@[simp] theorem State.setTicks_openChoices (s : State) (t : TickDue) : (s.setTicks t).openChoices = s.openChoices := rfl
@[simp] theorem State.setTicks_pending (s : State) (t : TickDue) : (s.setTicks t).pending = s.pending := rfl

/-! ## After a write of `openChoices` -/

@[simp] theorem State.setOpenChoices_purses (s : State) (n : Nat) : (s.setOpenChoices n).purses = s.purses := rfl
@[simp] theorem State.setOpenChoices_time (s : State) (n : Nat) : (s.setOpenChoices n).time = s.time := rfl
@[simp] theorem State.setOpenChoices_holds (s : State) (n : Nat) : (s.setOpenChoices n).holds = s.holds := rfl
@[simp] theorem State.setOpenChoices_credit (s : State) (n : Nat) : (s.setOpenChoices n).credit = s.credit := rfl
@[simp] theorem State.setOpenChoices_journal (s : State) (n : Nat) : (s.setOpenChoices n).journal = s.journal := rfl
@[simp] theorem State.setOpenChoices_lane (s : State) (n : Nat) : (s.setOpenChoices n).lane = s.lane := rfl
@[simp] theorem State.setOpenChoices_port (s : State) (n : Nat) : (s.setOpenChoices n).port = s.port := rfl
@[simp] theorem State.setOpenChoices_office (s : State) (n : Nat) : (s.setOpenChoices n).office = s.office := rfl
@[simp] theorem State.setOpenChoices_engine (s : State) (n : Nat) : (s.setOpenChoices n).engine = s.engine := rfl
@[simp] theorem State.setOpenChoices_attention (s : State) (n : Nat) : (s.setOpenChoices n).attention = s.attention := rfl
@[simp] theorem State.setOpenChoices_supply (s : State) (n : Nat) : (s.setOpenChoices n).supply = s.supply := rfl
@[simp] theorem State.setOpenChoices_ticks (s : State) (n : Nat) : (s.setOpenChoices n).ticks = s.ticks := rfl
@[simp] theorem State.setOpenChoices_openChoices (s : State) (n : Nat) : (s.setOpenChoices n).openChoices = n := rfl
@[simp] theorem State.setOpenChoices_pending (s : State) (n : Nat) : (s.setOpenChoices n).pending = s.pending := rfl

/-! ## After a write of `pending` -/

@[simp] theorem State.setPending_purses (s : State) (q : List Instr) : (s.setPending q).purses = s.purses := rfl
@[simp] theorem State.setPending_time (s : State) (q : List Instr) : (s.setPending q).time = s.time := rfl
@[simp] theorem State.setPending_holds (s : State) (q : List Instr) : (s.setPending q).holds = s.holds := rfl
@[simp] theorem State.setPending_credit (s : State) (q : List Instr) : (s.setPending q).credit = s.credit := rfl
@[simp] theorem State.setPending_journal (s : State) (q : List Instr) : (s.setPending q).journal = s.journal := rfl
@[simp] theorem State.setPending_lane (s : State) (q : List Instr) : (s.setPending q).lane = s.lane := rfl
@[simp] theorem State.setPending_port (s : State) (q : List Instr) : (s.setPending q).port = s.port := rfl
@[simp] theorem State.setPending_office (s : State) (q : List Instr) : (s.setPending q).office = s.office := rfl
@[simp] theorem State.setPending_engine (s : State) (q : List Instr) : (s.setPending q).engine = s.engine := rfl
@[simp] theorem State.setPending_attention (s : State) (q : List Instr) : (s.setPending q).attention = s.attention := rfl
@[simp] theorem State.setPending_supply (s : State) (q : List Instr) : (s.setPending q).supply = s.supply := rfl
@[simp] theorem State.setPending_ticks (s : State) (q : List Instr) : (s.setPending q).ticks = s.ticks := rfl
@[simp] theorem State.setPending_openChoices (s : State) (q : List Instr) : (s.setPending q).openChoices = s.openChoices := rfl
@[simp] theorem State.setPending_pending (s : State) (q : List Instr) : (s.setPending q).pending = q := rfl

/-! ## With the office receiver back in SEEKING -/

@[simp] theorem State.officeSeek_purses (s : State) : s.officeSeek.purses = s.purses := rfl
@[simp] theorem State.officeSeek_time (s : State) : s.officeSeek.time = s.time := rfl
@[simp] theorem State.officeSeek_holds (s : State) : s.officeSeek.holds = s.holds := rfl
@[simp] theorem State.officeSeek_credit (s : State) : s.officeSeek.credit = s.credit := rfl
@[simp] theorem State.officeSeek_journal (s : State) : s.officeSeek.journal = s.journal := rfl
@[simp] theorem State.officeSeek_lane (s : State) : s.officeSeek.lane = s.lane := rfl
@[simp] theorem State.officeSeek_port (s : State) : s.officeSeek.port = s.port := rfl
@[simp] theorem State.officeSeek_engine (s : State) : s.officeSeek.engine = s.engine := rfl
@[simp] theorem State.officeSeek_attention (s : State) : s.officeSeek.attention = s.attention := rfl
@[simp] theorem State.officeSeek_supply (s : State) : s.officeSeek.supply = s.supply := rfl
@[simp] theorem State.officeSeek_ticks (s : State) : s.officeSeek.ticks = s.ticks := rfl
@[simp] theorem State.officeSeek_openChoices (s : State) : s.officeSeek.openChoices = s.openChoices := rfl
@[simp] theorem State.officeSeek_pending (s : State) : s.officeSeek.pending = s.pending := rfl
@[simp] theorem State.officeSeek_purse? (s : State) (card : Nat) : s.officeSeek.purse? card = s.purse? card := rfl
@[simp] theorem State.officeSeek_classOf (s : State) (p : Purse) : s.officeSeek.classOf p = s.classOf p := rfl
@[simp] theorem State.officeSeek_heldAmount (s : State) (p : Purse) : s.officeSeek.heldAmount p = s.heldAmount p := rfl
@[simp] theorem State.officeSeek_queue (s : State) (station : Nat) : s.officeSeek.queue station = s.queue station := rfl

end Sys2Proof.Machine
end

