-- ==== Sys2Proof/Laws/Ops.lean ====
section
/-! SUPPORT. One lemma for each shared operation, which says once everything it can do: taking an office command, taking a
lane request, appending a record, changing a purse, removing a hold, reporting a condition. -/

namespace Sys2Proof.Machine

/-! ## Taking an office command -/

theorem supplied_iff (s : State) : s.supplied = true ↔ s.Powered := by
  simp [State.supplied]

theorem withBody_some {α : Type} (x : α) (work : α → State → State × OfficeAnswer) : withBody (some x) work = work x := rfl

theorem withBody_none {α : Type} (work : α → State → State × OfficeAnswer) (s : State) :
    withBody none work s = (s, .refuse .badRequest) := rfl

theorem withPurse_some {s : State} {card : Nat} {p : Purse} (h : s.purse? card = some p)
    (work : Purse → State → State × OfficeAnswer) : withPurse card work s = work p s := by
  simp [withPurse, h]

theorem withPurse_none {s : State} {card : Nat} (h : s.purse? card = none) (work : Purse → State → State × OfficeAnswer) :
    withPurse card work s = (s, .refuse .unknownCard) := by
  simp [withPurse, h]

theorem officeReceives_iff (s : State) : s.officeReceives = true ↔ s.OfficeHears := by
  simp only [State.officeReceives, Bool.and_eq_true, bne_iff_ne, ne_eq, supplied_iff, OfficePort.rated,
    Option.isSome_iff_ne_none, and_assoc]

theorem officeOpen_hears {s : State} (h : s.OfficeOpen) : s.OfficeHears :=
  ⟨h.1, h.2.2⟩

theorem officeOpen_quiet {s : State} (h : s.OfficeOpen) : s.office.replyPeriod = false := by
  simp [OfficePort.replyPeriod, h.2.1]

/-- An open port does the work with its receiver back in SEEKING and builds the reply. -/
theorem takeCommand_open {s : State} (h : s.OfficeOpen) (work : State → State × OfficeAnswer) :
    s.takeCommand work = (work s.officeSeek).1.buildReply (work s.officeSeek).2 := by
  simp [State.takeCommand, (officeReceives_iff s).2 (officeOpen_hears h), officeOpen_quiet h]

/-- A command refused by an open port leaves the state but for the reply. -/
theorem takeCommand_refuse {s : State} (h : s.OfficeOpen) {work : State → State × OfficeAnswer} {status : OfficeStatus}
    (hw : work s.officeSeek = (s.officeSeek, .refuse status)) : s.takeCommand work = s.replied status [] := by
  rw [takeCommand_open h, hw]
  rfl

/-- The reply to a command that makes a check is that of the branch taken. -/
theorem buildReply_ite (c : Prop) [Decidable c] (x y : State × OfficeAnswer) :
    (if c then x else y).1.buildReply (if c then x else y).2 =
      if c then x.1.buildReply x.2 else y.1.buildReply y.2 := by
  split <;> rfl

/-- A frame that ends while the reply period is on is discarded with HANDSHAKE. -/
theorem takeCommand_busy {s : State} (h : s.OfficeHears) (hb : s.office.replyPeriod = true)
    (work : State → State × OfficeAnswer) :
    s.takeCommand work =
      { s with office := { s.office with receiver := .seeking, flags := { s.office.flags with handshake := true } } } := by
  simp [State.takeCommand, (officeReceives_iff s).2 h, hb, State.officeSeek, State.setOffice]

/-- A port that receives nothing takes no command. -/
theorem takeCommand_deaf {s : State} (h : ¬ s.OfficeHears) (work : State → State × OfficeAnswer) :
    s.takeCommand work = s := by
  simp [State.takeCommand, mt (officeReceives_iff s).1 h]

/-! ## Taking a lane request -/

theorem stationSlot_eq {station : Nat} (h : station ≠ 0) : stationSlot station = station - 1 := by
  simp [stationSlot, h]

/-- An address whose kind is not NONE is one of the 14. -/
theorem station_bounds {s : State} {station : Nat} (h : (s.station station).kind ≠ .none) : 1 ≤ station ∧ station ≤ 14 := by
  by_contra hc
  apply h
  have : ¬ stationSlot station < 14 := by
    unfold stationSlot
    split <;> omega
  simp [State.station, Vector.getElem?_eq_none (by omega : 14 ≤ stationSlot station), StationEntry.cold]

/-- The lane request unit takes the frame the port waits on and hands the outcome back. -/
theorem takeRequest_asked {s : State} {station : Nat} {kind : Byte} {body : List Byte} (h : s.LaneAsked station kind body)
    {serve : State → State × Option LaneReply} {t : State} {r : LaneReply} (hs : serve s = (t, some r))
    (hp : t.port = s.port) :
    s.takeRequest station kind body serve =
      { t with lane := { t.lane with outcome := some r }, port := s.port.holding r } := by
  obtain ⟨hpow, hrec, hh, hk⟩ := h
  have hserved : s.laneServed = true := by
    simp [State.laneServed, (supplied_iff s).2 hpow, hrec]
  simp [State.takeRequest, hserved, hk, hs, LanePort.takeBack, hp, hh, hrec, State.setPort, State.setLane,
    LanePort.holding]

/-- A request that goes through the common checks, answered. -/
theorem takeChecked_asked {s : State} {k : RequestKind} {station : Nat} {body : List Byte}
    (h : s.LaneAsked station k.code body) {owner : Purse → Nat → State → State × LaneAnswer} {t : State} {a : LaneAnswer}
    (hc : s.commonChecks k station body owner = (t, a)) (hp : t.port = s.port) :
    s.takeChecked k station body owner = t.laneAnswered station k.code a.card a.status a.body := by
  have hb := station_bounds h.2.2.2
  unfold State.takeChecked
  rw [takeRequest_asked h (t := t.setLastReply station (some (a.record k.code)))
    (r := a.reply station t.overdueFlag) (by simp [State.answerRequest, hc]) (by simp [State.setLastReply, hp])]
  have hsh : ∀ st : LaneStatus, st.short = decide (st = .shortOk) := by intro st; cases st <;> rfl
  have ho : t.overdueFlag = decide (t.journal.timer = 0) := by
    simp only [State.overdueFlag, Journal.overdue]
    by_cases hz : t.journal.timer = 0 <;> simp [hz]
  simp [State.laneAnswered, State.setLastReply, State.setLane, LaneAnswer.record, LaneAnswer.reply, State.laneReply, hp, hsh,
    ho, stationSlot_eq (show station ≠ 0 by omega)]

/-- The common checks passed: the owning block answers, after the watch entries have been matched. -/
theorem commonChecks_pass {s : State} {k : RequestKind} {station card amount : Nat} {body : List Byte} {p : Purse}
    {owner : Purse → Nat → State → State × LaneAnswer} (hr : k.read body = some (card, amount))
    (hk : k.allowed (s.station station).kind = true) (he : k.engineRefusal s.engine.state = none)
    (hp : s.purse? card = some p) (ha : p.state = .active) :
    s.commonChecks k station body owner = owner p amount (s.matchWatch station card k) := by
  have h1 : ((s.matchWatch station card k).station station) = s.station station := by
    unfold State.matchWatch; split <;> rfl
  have h2 : (s.matchWatch station card k).engine = s.engine := by
    unfold State.matchWatch; split <;> rfl
  have h3 : (s.matchWatch station card k).purse? card = s.purse? card := by
    unfold State.matchWatch; split <;> rfl
  simp [State.commonChecks, hr, h1, h2, h3, hk, he, hp, ha]

/-! ## Records, purses and holds -/

theorem nextSequence_eq (q : Nat) : nextSequence q = if q = 4294967295 then 1 else q + 1 := rfl

/-- A reported beginning changes the attention unit only. -/
theorem reportBegin_eq (s : State) (c : Cause) (b : Bool) :
    s.reportBegin c b = { s with attention := if b then s.attention.conditionBegins c else s.attention } := by
  cases b <;> rfl

/-- A reported end changes the attention unit only. -/
theorem reportEnd_eq (s : State) (c : Cause) (b : Bool) :
    s.reportEnd c b = { s with attention := if b then s.attention.conditionEnds c else s.attention } := by
  cases b <;> rfl

/-- An append says its whole effect. -/
theorem appendRecord_eq (s : State) (source : Nat) (body : RecordBody) : s.appendRecord source body = s.withRecord source body := by
  have hl : s.journal.records.length = s.journal.occupancy := rfl
  simp only [State.appendRecord, State.withRecord, AttentionUnit.afterAppend, reportBegin_eq, hl, decide_eq_true_eq]
  rfl

theorem generalRoom_false (s : State) : s.generalRoom = false ↔ 1920 ≤ s.journal.records.length := by
  rw [State.generalRoom, decide_eq_false_iff_not, not_lt]
  rfl

theorem debitRoom_false (s : State) : s.debitRoom = false ↔ 2047 ≤ s.journal.records.length := by
  rw [State.debitRoom, decide_eq_false_iff_not, not_lt]
  rfl

theorem high_true (j : Journal) : j.high = true ↔ j.highWater ≤ j.records.length := decide_eq_true_iff

theorem full_true (j : Journal) : j.full = true ↔ 2047 ≤ j.records.length := decide_eq_true_iff

theorem overdue_true (j : Journal) : j.overdue = true ↔ j.timer = 0 := by
  rw [Journal.overdue, beq_iff_eq]

/-- A journal written in place of the old one, with the ends of the conditions that no longer hold. -/
theorem lowerJournal_eq (s : State) (j : Journal) :
    s.lowerJournal j = { s with
      journal := j
      attention := ((s.attention.afterEnd .overdue (s.journal.timer = 0 ∧ j.timer ≠ 0)).afterEnd .journalHigh
          (s.journal.highWater ≤ s.journal.records.length ∧ j.records.length < j.highWater)).afterEnd .journalFull
          (2047 ≤ s.journal.records.length ∧ j.records.length < 2047) } := by
  have e1 : (s.journal.overdue && !j.overdue) = decide (s.journal.timer = 0 ∧ j.timer ≠ 0) := by
    rw [Bool.eq_iff_iff, Bool.and_eq_true, Bool.not_eq_true', ← Bool.not_eq_true, overdue_true, overdue_true,
      decide_eq_true_eq]
  have e2 : (s.journal.high && !j.high) =
      decide (s.journal.highWater ≤ s.journal.records.length ∧ j.records.length < j.highWater) := by
    rw [Bool.eq_iff_iff, Bool.and_eq_true, Bool.not_eq_true', ← Bool.not_eq_true, high_true, high_true, decide_eq_true_eq,
      not_le]
  have e3 : (s.journal.full && !j.full) = decide (2047 ≤ s.journal.records.length ∧ j.records.length < 2047) := by
    rw [Bool.eq_iff_iff, Bool.and_eq_true, Bool.not_eq_true', ← Bool.not_eq_true, full_true, full_true, decide_eq_true_eq,
      not_le]
  simp only [State.lowerJournal, reportEnd_eq, e1, e2, e3, AttentionUnit.afterEnd, decide_eq_true_eq]
  rfl

theorem dayMarkRoom_true (s : State) : s.dayMarkRoom = true ↔ s.journal.records.length < 2048 := by
  rw [State.dayMarkRoom, decide_eq_true_eq]
  rfl

theorem purse?_card {s : State} {card : Nat} {p : Purse} (h : s.purse? card = some p) : p.card = card := by
  have := List.find?_some h
  simpa using this

theorem purse?_mem {s : State} {card : Nat} {p : Purse} (h : s.purse? card = some p) : p ∈ s.purses.purses :=
  List.mem_of_find?_eq_some h

/-- A change of one purse reads as the change at its card and as before at every other. -/
theorem modifyPurse_purse? (s : State) (card c : Nat) (f : Purse → Purse) (hf : ∀ p, (f p).card = p.card) :
    (s.modifyPurse card f).purse? c = if c = card then (s.purse? c).map f else s.purse? c := by
  simp only [State.purse?, State.modifyPurse, State.setPurses]
  induction s.purses.purses with
  | nil => simp
  | cons p ps ih =>
    simp only [List.map_cons, List.find?_cons]
    by_cases hp : p.card = card
    · by_cases hc : c = card
      · subst hc; subst hp; simp [hf]
      · have h1 : ¬ p.card = c := by omega
        simp only [hp, if_true, hf, hc, if_false] at ih ⊢
        have h2 : (card == c) = false := by simp; omega
        simp [h2, ih]
    · by_cases hc : p.card = c
      · have h1 : c ≠ card := by omega
        subst hc; simp [hp]
      · simp only [hp, if_false]
        have h2 : (p.card == c) = false := by simpa using hc
        simp [h2, ih]

theorem modifyPurse_other (s : State) (card c : Nat) (f : Purse → Purse) (hf : ∀ p, (f p).card = p.card) (h : c ≠ card) :
    (s.modifyPurse card f).purse? c = s.purse? c := by
  rw [modifyPurse_purse? s card c f hf, if_neg h]

/-- A record goes to its place in card number order. -/
theorem insertPurse_eq (p : Purse) (l : List Purse) (hs : l.Pairwise (fun a b => a.card < b.card))
    (hn : ∀ q ∈ l, q.card ≠ p.card) :
    insertPurse p l = l.filter (fun q => decide (q.card < p.card)) ++ p :: l.filter (fun q => decide (p.card < q.card)) := by
  induction l with
  | nil => rfl
  | cons q qs ih =>
    obtain ⟨hq, hs'⟩ := List.pairwise_cons.1 hs
    have hne := hn q (by simp)
    by_cases hlt : p.card < q.card
    · have h1 : (q :: qs).filter (fun r => decide (r.card < p.card)) = [] := by
        rw [List.filter_eq_nil_iff]
        intro r hr
        rcases List.mem_cons.1 hr with rfl | hr
        · simp; omega
        · have := hq r hr; simp; omega
      have h2 : (q :: qs).filter (fun r => decide (p.card < r.card)) = q :: qs := by
        rw [List.filter_eq_self]
        intro r hr
        rcases List.mem_cons.1 hr with rfl | hr
        · simpa using hlt
        · have := hq r hr; simp; omega
      rw [h1, h2, insertPurse, if_pos hlt]
      rfl
    · have hgt : q.card < p.card := by omega
      rw [insertPurse, if_neg hlt, ih hs' (fun r hr => hn r (by simp [hr])), List.filter_cons_of_pos (by simpa using hgt),
        List.filter_cons_of_neg (by simpa using Nat.le_of_lt hgt)]
      rfl

end Sys2Proof.Machine
end

