-- ==== Sys2Proof/Laws/Frames.lean ====
section
/-! SUPPORT. Bodies that spell nothing, the sums of frames, the bits of flag bytes, and when an attention cause is eligible. -/

namespace Sys2Proof.Machine

/-- A body of the wrong length, or with a bad field, spells nothing. -/
theorem bodyOf_none {α : Type} {body : List Byte} {len : Nat} {ok : Bool} {value : α} (h : body.length ≠ len ∨ ok = false) : bodyOf body len ok value = none := by
  unfold bodyOf; rw [if_neg]; rintro ⟨h1, h2⟩; rcases h with h | h
  · exact h h1
  · simp [h] at h2

theorem cardInRange_false {c : Nat} : cardInRange c = false ↔ noCard c := by
  rw [cardInRange, ← Bool.not_eq_true, Bool.and_eq_true, decide_eq_true_eq, decide_eq_true_eq, Config.maxCard]; unfold noCard; omega

theorem classIndex_none {n : Nat} (h : 7 < n) : classIndex n = none := by
  unfold classIndex; rw [dif_neg]; omega

theorem byteSum_toNat_aux (bs : List Byte) (a : Byte) : (bs.foldl (· + ·) a).toNat = (a.toNat + (bs.map BitVec.toNat).sum) % 256 := by
  induction bs generalizing a with
  | nil => have := a.isLt; simp; omega
  | cons b bs ih =>
    simp only [List.foldl_cons, ih, BitVec.toNat_add, List.map_cons, List.sum_cons]
    omega

/-- The sum of characters is 0 modulo 256 exactly when the sum of their values is. -/
theorem byteSum_zero (bs : List Byte) : byteSum bs = 0 ↔ (bs.map BitVec.toNat).sum % 256 = 0 := by
  rw [← BitVec.toNat_inj]
  unfold byteSum; rw [byteSum_toNat_aux]; simp

theorem officeSumGood_iff {k : Byte} {b : List Byte} {c : Byte} : officeSumGood k b c = true ↔ officeSumZero k b c := by
  unfold officeSumGood officeSumZero
  rw [beq_iff_eq, byteSum_zero]
  simp only [List.map_append, List.map_cons, List.map_nil, List.sum_append, List.sum_cons, List.sum_nil, BitVec.toNat_ofNat]

  omega

theorem laneSumGood_iff {address kind : Byte} {body : List Byte} {check : Byte} :
    laneSumGood address kind body check = true ↔ laneSumZero address kind body check := by
  unfold laneSumGood laneSumZero
  rw [beq_iff_eq, byteSum_zero]
  simp only [List.map_append, List.map_cons, List.map_nil, List.sum_append, List.sum_cons, List.sum_nil, BitVec.toNat_ofNat]
  omega

/-- The check character makes the sum 0 modulo 256. -/
theorem withCheck_sum (bs : List Byte) : ((withCheck bs).map BitVec.toNat).sum % 256 = 0 := by
  rw [← byteSum_zero]
  unfold withCheck checkByte byteSum
  rw [List.foldl_append]
  simp

theorem flagByte_two (a b : Bool) : ([flagByte a b false false false false false false] : List Byte) = leBytes 1 ((if a then 1 else 0) + (if b then 2 else 0)) := by
  cases a <;> cases b <;> rfl

theorem flagByte_four (a b c d : Bool) : ([flagByte a b c d false false false false] : List Byte) = leBytes 1 ((if a then 1 else 0) + (if b then 2 else 0) + (if c then 4 else 0) + (if d then 8 else 0)) := by
  cases a <;> cases b <;> cases c <;> cases d <;> rfl

theorem flagByte_five (a b c d e : Bool) : ([flagByte a b c d e false false false] : List Byte) = leBytes 1 ((if a then 1 else 0) + (if b then 2 else 0) + (if c then 4 else 0) + (if d then 8 else 0) + (if e then 16 else 0)) := by
  cases a <;> cases b <;> cases c <;> cases d <;> cases e <;> rfl

theorem boolByte_eq (b : Bool) : ([boolByte b] : List Byte) = leBytes 1 (if b then 1 else 0) := by cases b <;> rfl

theorem eligible_iff (a : AttentionUnit) (c : Cause) : a.eligible c = true ↔ causeEligible a c := by
  unfold AttentionUnit.eligible causeEligible
  cases c <;> simp [Cause.maskable, and_assoc]

end Sys2Proof.Machine
end

