-- ==== Sys2Proof/Laws/Lane.lean ====
section
/-! SUPPORT. What a lane request does, once over: watch matching, the way to step 7, the stages of a charge, the granted amount
of a HOLD, the removal of holds. -/

namespace Sys2Proof.Machine

theorem mapEntries_eq {α : Type} {n : Nat} (f : α → α) (v : Vector α n) : mapEntries f v = v.map f := by
  rcases v with ⟨⟨l⟩, h⟩; simp [mapEntries]

/-- Watch matching says its whole effect (R100). -/
theorem matchWatch_eq (s : State) (station card : Nat) (k : RequestKind) : s.matchWatch station card k = s.watched station card k := by
  unfold State.matchWatch State.watched
  have h1 : (s.lane.watch.toList.any (fun w => w.card == card) = true) ↔ ∃ w ∈ s.lane.watch.toList, w.card = card := by
    rw [List.any_eq_true]; simp only [beq_iff_eq]
  by_cases h : ∃ w ∈ s.lane.watch.toList, w.card = card
  · rw [if_pos h, if_pos (h1.2 h), mapEntries_eq]
    have : (fun w : WatchEntry => w.hit station card k) = (fun w : WatchEntry =>
        if w.card = card then
          { card := card, latch := true, hits := counted 255 w.hits, lastStation := station, lastKind := some k }
        else w) := by
      funext w
      unfold WatchEntry.hit
      by_cases hc : w.card = card
      · rw [if_pos hc, if_pos hc]; subst hc; rfl
      · rw [if_neg hc, if_neg hc]
    rw [this]; rfl
  · rw [if_neg h, if_neg (mt h1.1 h)]

theorem watched_port (s : State) (station card : Nat) (k : RequestKind) : (s.watched station card k).port = s.port := by
  unfold State.watched; split <;> rfl

theorem watched_time (s : State) (a b : Nat) (k : RequestKind) : (s.watched a b k).time = s.time := by unfold State.watched; split <;> rfl

theorem watched_purses (s : State) (a b : Nat) (k : RequestKind) : (s.watched a b k).purses = s.purses := by unfold State.watched; split <;> rfl

theorem watched_holds (s : State) (a b : Nat) (k : RequestKind) : (s.watched a b k).holds = s.holds := by unfold State.watched; split <;> rfl

theorem watched_journal (s : State) (a b : Nat) (k : RequestKind) : (s.watched a b k).journal = s.journal := by unfold State.watched; split <;> rfl

theorem watched_engine (s : State) (a b : Nat) (k : RequestKind) : (s.watched a b k).engine = s.engine := by unfold State.watched; split <;> rfl

/-- A body that spells a request reads as what it spells. -/
theorem read_fields (k : RequestKind) {card amount : Nat} (h1 : 1 ≤ card) (h2 : card ≤ 99999999) (h3 : amount < 16777216)
    (h4 : k = .hold ∨ k = .settle ∨ k = .sale → amount ≤ 99999) :
    ∃ a, k.read (k.fields card amount) = some (card, a) ∧ (k ≠ .bal → k ≠ .drop → a = amount) := by
  cases k
  · exact ⟨_, read_bal_spelled h1 h2, by simp⟩
  · exact ⟨_, read_amount_spelled rfl h1 h2 h3 (decide_eq_true (h4 (by simp))), by simp⟩
  · exact ⟨_, read_amount_spelled rfl h1 h2 h3 (decide_eq_true (h4 (by simp))), by simp⟩
  · exact ⟨_, read_amount_spelled rfl h1 h2 h3 (decide_eq_true (h4 (by simp))), by simp⟩
  · exact ⟨_, read_drop_spelled h1 h2, by simp⟩
  · exact ⟨_, read_amount_spelled rfl h1 h2 h3 rfl, by simp⟩

/-- A request that passes the common checks is answered by its owning block. -/
theorem takeChecked_admitted (s : State) (k : RequestKind) (station card amount a : Nat) (p : Purse) (ha : s.LaneAsked station k.code (k.fields card amount))
  (hr : k.read (k.fields card amount) = some (card, a)) (he : k.engineRefusal s.engine.state = none) (hp : s.purse? card = some p) (hact : p.state = .active)
  (hk : k.allowed (s.station station).kind = true) (owner : Purse → Nat → State → State × LaneAnswer) (t : State) (an : LaneAnswer)
  (ho : owner p a (s.watched station card k) = (t, an)) (ht : t.port = s.port) :
  s.takeChecked k station (k.fields card amount) owner = t.laneAnswered station k.code an.card an.status an.body := by
  apply takeChecked_asked ha _ ht
  rw [commonChecks_pass hr hk he hp hact, matchWatch_eq, ho]

theorem eligibleWindow_eq (s : State) (p : Purse) : s.time.eligibleWindow (s.classOf p) = s.subsidyWindow p := by
  unfold TimeUnit.eligibleWindow State.subsidyWindow State.classOf
  rcases s.time.windowFound with _ | ⟨w, b⟩
  · rfl
  · cases b <;> simp

theorem usedIn_eq (s : State) (p : Purse) (w : Nat) : p.usedIn s.time.day w = s.usedToday p w := rfl

theorem spentOn_eq (s : State) (p : Purse) : p.spentOn s.time.day = s.spentToday p := rfl

theorem subsidyOf_eq (s : State) (p : Purse) (g : Nat) : subsidyOf (s.classOf p) p s.time.day (s.subsidyWindow p) g = s.subsidyFor p g := by
  unfold subsidyOf State.subsidyFor capRoom
  rcases s.subsidyWindow p with _ | w <;> rfl

theorem chargeOf_eq (s : State) (p : Purse) (g : Nat) : s.chargeOf p g = { gross := g, subsidy := s.subsidyFor p g, net := s.netFor p g, eligible := s.subsidyWindow p, window := s.time.windowFound.map Prod.fst } := by
  unfold State.chargeOf
  simp only [eligibleWindow_eq, subsidyOf_eq]; rfl

/-- Stages 7 to 10 say their whole verdict. -/
theorem chargeRefusal_eq (s : State) (p : Purse) (g kept : Nat) : s.chargeRefusal p (s.chargeOf p g) kept = s.chargeVerdict p g kept := by
  rw [chargeOf_eq]
  unfold State.chargeRefusal State.chargeVerdict
  simp only [spentOn_eq]
  have h1 : (0 < (s.classOf p).dayLimit ∧ (s.classOf p).dayLimit < s.spentToday p + s.netFor p g) ↔ (s.purses.classes[p.cls].dayLimit ≠ 0 ∧ s.purses.classes[p.cls].dayLimit < s.spentToday p + s.netFor p g) := by
    rw [Nat.pos_iff_ne_zero]; rfl
  by_cases c1 : s.purses.classes[p.cls].dayLimit ≠ 0 ∧ s.purses.classes[p.cls].dayLimit < s.spentToday p + s.netFor p g
  · rw [if_pos c1]; exact if_pos (h1.2 c1)
  rw [if_neg c1]; refine (if_neg (mt h1.1 c1)).trans ?_
  by_cases c2 : p.balance - s.netFor p g < s.purses.classes[p.cls].floor + kept
  · rw [if_pos c2]; exact if_pos c2
  rw [if_neg c2]; refine (if_neg c2).trans ?_
  by_cases c3 : 2047 ≤ s.journal.records.length
  · rw [if_pos c3, if_pos ((debitRoom_false s).2 c3)]
  · rw [if_neg c3, if_neg (mt (debitRoom_false s).1 c3)]

theorem card_unique_of_sorted {l : List Purse} (h : l.Pairwise (fun p q => p.card < q.card)) {p q : Purse} (hp : p ∈ l) (hq : q ∈ l) (hc : p.card = q.card) : p = q := by
  induction l with
  | nil => cases hp
  | cons a l ih =>
    obtain ⟨h1, h2⟩ := List.pairwise_cons.1 h
    rcases List.mem_cons.1 hp with rfl | hp' <;> rcases List.mem_cons.1 hq with rfl | hq'
    · rfl
    · have := h1 _ hq'; omega
    · have := h1 _ hp'; omega
    · exact ih h2 hp' hq'

/-- Stage 11 says its whole effect. -/
theorem applyCharge_eq (s : State) (p : Purse) (g station : Nat) (hs : s.PursesSound) (hp : s.purse? p.card = some p) : s.applyCharge p (s.chargeOf p g) station = s.charged station p g := by
  unfold State.applyCharge State.charged
  rw [appendRecord_eq, chargeOf_eq]
  have : (s.purses.purses.map (fun q : Purse => if q.card = p.card then q.charged { gross := g, subsidy := s.subsidyFor p g, net := s.netFor p g, eligible := s.subsidyWindow p, window := s.time.windowFound.map Prod.fst } s.time.day else q)) = s.purses.purses.map (fun q : Purse => if q.card = p.card then s.chargedPurse p g else q) := by
    apply List.map_congr_left
    intro q hq
    by_cases hc : q.card = p.card
    · rw [if_pos hc, if_pos hc, card_unique_of_sorted hs.1 hq (purse?_mem hp) hc]
      unfold Purse.charged State.chargedPurse
      rcases s.subsidyWindow p with _ | w <;> rfl
    · rw [if_neg hc, if_neg hc]
  simp only [State.modifyPurse, State.addFloat, State.addDebitTotals, State.setPurses, this, addTotal]
  rw [Int.sub_eq_add_neg]
  rfl

/-- Watch matching changes nothing a charge reads. -/
theorem watched_charge (s : State) (a b : Nat) (k : RequestKind) (p : Purse) (g kept : Nat) : (s.watched a b k).chargeVerdict p g kept = s.chargeVerdict p g kept ∧ (s.watched a b k).chargeBody p g = s.chargeBody p g ∧ (s.watched a b k).heldAmount p = s.heldAmount p ∧ ((s.watched a b k).PursesSound ↔ s.PursesSound) ∧ (s.watched a b k).purse? p.card = s.purse? p.card := by
  unfold State.watched; split <;> exact ⟨rfl, rfl, rfl, Iff.rfl, rfl⟩

theorem removeHold_eq (s : State) (st card : Nat) : s.removeHold card st = s.withoutHold st card := by
  unfold State.removeHold State.withoutHold
  have : (fun h : Hold => !(h.card == card && h.station == st)) = fun h : Hold => decide (¬ (h.card = card ∧ h.station = st)) := by
    funext h
    by_cases h1 : h.card = card <;> by_cases h2 : h.station = st <;> simp [h1, h2]
  rw [this]; rfl

/-- The granted amount says its whole verdict. -/
theorem grantedAmount_eq (s : State) (p : Purse) (asked : Nat) : s.grantedAmount p asked = match (s.grantVerdict p asked).1 with
   | some st => .error st
   | none => .ok (s.grantVerdict p asked).2 := by
  unfold State.grantedAmount State.grantVerdict
  by_cases c0 : asked = 0
  · simp [c0]
  simp only [spentOn_eq, State.funds, State.classOf, if_neg c0]
  by_cases c1 : s.purses.classes[p.cls].dayLimit ≠ 0 ∧ ((s.purses.classes[p.cls].dayLimit : Int) - s.spentToday p) ≤ 0
  · rw [if_pos c1]
    exact if_pos ⟨by show 0 < s.purses.classes[p.cls].dayLimit; omega, by show s.purses.classes[p.cls].dayLimit ≤ s.spentToday p; omega⟩
  · rw [if_neg c1]
    refine (if_neg (fun h => c1 ⟨by have := h.1; omega, by have : s.purses.classes[p.cls].dayLimit ≤ s.spentToday p := h.2; omega⟩)).trans ?_
    by_cases c2 : p.balance - s.purses.classes[p.cls].floor ≤ 0
    · rw [if_pos c2]; exact if_pos c2
    · rw [if_neg c2]; refine (if_neg c2).trans ?_
      simp only
      congr 2
      by_cases c3 : s.purses.classes[p.cls].dayLimit = 0
      · rw [if_pos c3]; exact if_neg (by omega)
      · rw [if_neg c3]; refine (if_pos (by omega)).trans ?_
        congr 1
        have : s.spentToday p < s.purses.classes[p.cls].dayLimit := by omega
        show s.purses.classes[p.cls].dayLimit - s.spentToday p = _
        omega

theorem hold?_none (s : State) (card station : Nat) (h : ∀ h ∈ s.holds.holds, ¬ (h.card = card ∧ h.station = station)) : s.hold? card station = none := by
  unfold State.hold?; rw [List.find?_eq_none]; intro x hx hx'; exact h x hx (by simpa using hx')

/-- The removal of several holds, at once. -/
theorem removeHolds_eq (l : List Hold) (s : State) : s.removeHolds l =
   { s with purses := { s.purses with purses := s.purses.purses.map (fun q => if l.any (fun h => h.card == q.card) then { q with holdStation := none } else q) },
            holds := { s.holds with holds := s.holds.holds.filter (fun h => !l.any (fun g => h.card == g.card && h.station == g.station)) } } := by
  induction l generalizing s with
  | nil => simp [State.removeHolds]
  | cons g l ih =>
    rw [State.removeHolds, ih]
    simp only [State.removeHold, State.setHoldStation, State.modifyPurse, State.setPurses, State.setHolds, List.map_map, List.filter_filter, State.mk.injEq, PurseStore.mk.injEq, HoldUnit.mk.injEq, true_and, and_true]
    refine ⟨?_, ?_⟩
    · apply List.map_congr_left
      intro q _
      simp only [Function.comp, List.any_cons]
      by_cases h1 : q.card = g.card
      · simp [h1]
      · have h2 : (g.card == q.card) = false := by simpa using fun h => h1 h.symm
        rw [if_neg h1]; simp [h2]
    · apply List.filter_congr
      intro h _
      simp only [List.any_cons, Bool.not_or]
      rw [Bool.and_comm]

theorem card_unique {s : State} (hs : s.PursesSound) {p q : Purse} (hp : p ∈ s.purses.purses) (hq : q ∈ s.purses.purses) (h : p.card = q.card) : p = q := by
  have hpw := hs.1
  clear hs
  generalize s.purses.purses = l at *
  induction l with
  | nil => cases hp
  | cons a l ih =>
    obtain ⟨h1, h2⟩ := List.pairwise_cons.1 hpw
    rcases List.mem_cons.1 hp with rfl | hp' <;> rcases List.mem_cons.1 hq with rfl | hq'
    · rfl
    · have := h1 q hq'; omega
    · have := h1 p hp'; omega
    · exact ih hp' hq' h2

end Sys2Proof.Machine
end

