-- ==== Sys2Proof/Laws/Journal.lean ====
section
/-! SUPPORT. What the journal, a close of a batch, a day mark, a start and the clock do, once over. -/

namespace Sys2Proof.Machine

/-- In a consecutive series the number at a place is fixed by the first. -/
theorem consecutive_get (l : List Nat) (h : consecutive l = true) (hr : ∀ n ∈ l, 1 ≤ n ∧ n ≤ 4294967295) (i : Nat) (hi : i < l.length) :
   l[i] = (l[0]'(by omega) - 1 + i) % 4294967295 + 1 := by
  induction l generalizing i with
  | nil => simp at hi
  | cons a l ih =>
    cases i with
    | zero => have := hr a (by simp); simp; omega
    | succ i =>
      cases l with
      | nil => simp at hi
      | cons b l =>
        simp only [consecutive, Bool.and_eq_true, beq_iff_eq] at h
        have := ih h.2 (fun n hn => hr n (by simp [hn])) i (by simpa using hi)
        simp only [List.getElem_cons_succ, List.getElem_cons_zero] at this ⊢
        rw [this, h.1]
        have ha := hr a (by simp)
        split_ifs with hs
        · subst hs; omega
        · omega

theorem series_inj {s : State} (hs : s.JournalSound) {i j : Nat} (hi : i < s.journal.series.length) (hj : j < s.journal.series.length)
   (h : s.journal.series[i] = s.journal.series[j]) : i = j := by
  have hl : s.journal.series.length ≤ 2049 := by
    unfold Journal.series; simp; have := hs.1; omega
  have := consecutive_get _ hs.2.1 hs.2.2.1 i hi
  have := consecutive_get _ hs.2.1 hs.2.2.1 j hj
  omega

/-- A sound journal holds no sequence number twice. -/
theorem series_nodup {s : State} (hs : s.JournalSound) : s.journal.series.Nodup := by
  rw [List.nodup_iff_injective_getElem]
  intro i j h
  exact Fin.ext (series_inj hs i.2 j.2 h)

theorem findIdx_split (l m : List Record) (r : Record) (x : Nat) (hx : r.seq = x) (hn : ∀ a ∈ l, a.seq ≠ x) : (l ++ r :: m).findIdx (fun r => r.seq == x) = l.length := by
  induction l with
  | nil => simp [List.findIdx_cons, hx]
  | cons a l ih =>
    have := hn a (by simp)
    have h2 : (a.seq == x) = false := by simpa using this
    simp [List.findIdx_cons, h2, ih (fun b hb => hn b (by simp [hb]))]

/-- A credit says its whole effect. -/
theorem credited_eq (s : State) (p : Purse) (amount source : Nat) (body : Int → RecordBody) :
    s.applyCredit p amount source body = s.credited p.card amount source (body (p.balance + amount)) := by
  unfold State.applyCredit State.credited
  rw [appendRecord_eq]
  rfl

/-- One item of a close says its whole effect. -/
theorem closeItem_eq (s : State) (t : CloseTally) (i : Nat) (it : BatchItem) :
    s.closeItem t i it = ((s.closeVerdict it).2, match (s.closeVerdict it).1 with
      | none => t.apply it.amount s.journal.nextSeq
      | some r => t.reject i it.card r) := by
  unfold State.closeItem State.closeVerdict State.itemRefusal
  by_cases h : 1920 ≤ s.journal.records.length
  · rw [if_pos ((generalRoom_false s).2 h), if_pos h]
  · rw [if_neg (mt (generalRoom_false s).1 h), if_neg h]
    rcases hp : s.purse? it.card with _ | p
    · rfl
    · dsimp only [Config.maxBalance]
      by_cases h2 : 999999 < p.balance + it.amount
      · rw [if_pos h2, if_pos h2]
      · rw [if_neg h2, if_neg h2]; dsimp only; rw [credited_eq, purse?_card hp]

theorem withRecord_records (s : State) (a b) : (s.withRecord a b).journal.records = s.journal.records ++ [{ seq := s.journal.nextSeq, source := a, minute := s.time.minute, day := s.time.day, body := b }] := rfl

/-- A tally is that of the verdicts given so far. -/
def CloseTally.Matches (s0 : State) (t : CloseTally) (items : List BatchItem) (vs : List (Option RejectReason)) (lastSeq : Nat) : Prop :=
  t.summary.appliedCount = vs.count none ∧ t.summary.appliedTotal = appliedAmounts items vs ∧ t.summary.rejectedCount = vs.length - vs.count none ∧
  t.summary.firstSeq = (if vs.count none = 0 then 0 else s0.journal.nextSeq) ∧ t.summary.lastSeq = (if vs.count none = 0 then 0 else lastSeq) ∧ t.results = rejectedItems items vs

/-- A close gives the verdicts of its items in list order, and the tally is theirs. -/
theorem closeItems_eq (s0 : State) : ∀ (items : List BatchItem) (done : List BatchItem) (vs : List (Option RejectReason)) (s : State) (t : CloseTally) (i : Nat),
    done.length = vs.length → i = done.length + 1 →
    (vs.count none = 0 → s.journal.nextSeq = s0.journal.nextSeq) →
    CloseTally.Matches s0 t done vs ((s.journal.records.getLast?.map Record.seq).getD 0) →
    (closeItems items i s t).1 = (s.closeVerdicts items).2 ∧
    CloseTally.Matches s0 (closeItems items i s t).2 (done ++ items) (vs ++ (s.closeVerdicts items).1) (((s.closeVerdicts items).2.journal.records.getLast?.map Record.seq).getD 0) := by
  intro items
  induction items with
  | nil => intro done vs s t i h1 h2 h3 h4; simpa [closeItems, State.closeVerdicts] using h4
  | cons it items ih =>
    intro done vs s t i h1 h2 h3 h4
    rw [closeItems, closeItem_eq]
    simp only [State.closeVerdicts]
    have := ih (done ++ [it]) (vs ++ [(s.closeVerdict it).1]) (s.closeVerdict it).2 (match (s.closeVerdict it).1 with
      | none => t.apply it.amount s.journal.nextSeq
      | some r => t.reject i it.card r) (i+1) (by simp [h1]) (by simp [h2]) ?_ ?_
    · simpa [List.append_assoc] using this
    · intro hc
      have h0 : (s.closeVerdict it).1 ≠ none := by
        intro he; simp [he] at hc
      have : (s.closeVerdict it).2 = s := by
        revert h0
        unfold State.closeVerdict
        split_ifs
        · simp
        · rcases s.purse? it.card with _ | p
          · simp
          · dsimp only; split_ifs <;> simp
      rw [this]
      apply h3
      simp [List.count_append] at hc
      simpa using hc.1
    · obtain ⟨a1, a2, a3, a4, a5, a6⟩ := h4
      have hz : (done ++ [it]).zip (vs ++ [(s.closeVerdict it).1]) = done.zip vs ++ [(it, (s.closeVerdict it).1)] := by
        rw [List.zip_append h1]; rfl
      have hle := List.count_le_length (a := (none : Option RejectReason)) (l := vs)
      rcases hv : (s.closeVerdict it).1 with _ | r
      · rw [hv] at hz
        have hs : (s.closeVerdict it).2.journal.records.getLast?.map Record.seq = some s.journal.nextSeq := by
          revert hv
          unfold State.closeVerdict
          split_ifs
          · simp
          · rcases s.purse? it.card with _ | p
            · simp
            · dsimp only
              split_ifs
              · simp
              · intro _; simp [State.credited, withRecord_records]
        refine ⟨?_, ?_, ?_, ?_, ?_, ?_⟩
        · simp [CloseTally.apply, a1]
        · simp [CloseTally.apply, a2, appliedAmounts, hz]
        · simp [CloseTally.apply, a3]
        · simp only [CloseTally.apply, a1, a4]
          by_cases h : List.count none vs = 0
          · simp [h, h3 h]
          · simp [h]
        · simp [CloseTally.apply, hs]
        · simp [CloseTally.apply, a6, rejectedItems, hz, List.zipIdx_append]
      · rw [hv] at hz
        have hs : (s.closeVerdict it).2 = s := by
          revert hv
          unfold State.closeVerdict
          split_ifs
          · simp
          · rcases s.purse? it.card with _ | p
            · simp
            · dsimp only; split_ifs <;> simp
        refine ⟨?_, ?_, ?_, ?_, ?_, ?_⟩
        · simp [CloseTally.reject, a1]
        · simp [CloseTally.reject, a2, appliedAmounts, hz]
        · simp [CloseTally.reject, a3]; omega
        · simp [CloseTally.reject, a4]
        · simp [CloseTally.reject, a5, hs]
        · simp [CloseTally.reject, a6, rejectedItems, hz, List.zipIdx_append, h1, h2, Nat.add_comm]

theorem closeVerdicts_office (items : List BatchItem) (s : State) : (s.closeVerdicts items).2.office = s.office ∧ (s.closeVerdicts items).1.length = items.length := by
  induction items generalizing s with
  | nil => exact ⟨rfl, rfl⟩
  | cons it items ih =>
    obtain ⟨h1, h2⟩ := ih (s.closeVerdict it).2
    refine ⟨?_, by simp [State.closeVerdicts, h2]⟩
    rw [State.closeVerdicts, h1]
    unfold State.closeVerdict
    split_ifs
    · rfl
    · rcases s.purse? it.card with _ | p
      · rfl
      · dsimp only; split_ifs <;> rfl

theorem closeVerdicts_seek (items : List BatchItem) (s : State) : s.officeSeek.closeVerdicts items = ((s.closeVerdicts items).1, (s.closeVerdicts items).2.officeSeek) := by
  induction items generalizing s with
  | nil => rfl
  | cons it items ih =>
    have : s.officeSeek.closeVerdict it = ((s.closeVerdict it).1, (s.closeVerdict it).2.officeSeek) := by
      unfold State.closeVerdict
      by_cases h : 1920 ≤ s.journal.records.length
      · rw [if_pos (show 1920 ≤ s.officeSeek.journal.records.length from h), if_pos h]
      · rw [if_neg (show ¬ 1920 ≤ s.officeSeek.journal.records.length from h), if_neg h]
        rw [show s.officeSeek.purse? it.card = s.purse? it.card from rfl]
        rcases s.purse? it.card with _ | p
        · rfl
        · dsimp only
          by_cases h2 : 999999 < p.balance + it.amount
          · simp only [if_pos h2]
          · simp only [if_neg h2]; rfl
    simp only [State.closeVerdicts, this, ih]

theorem writeDayMark_eq (s : State) (d : Nat) : s.writeDayMark d = s.dayMarked d := by
  unfold State.writeDayMark State.dayMarked
  by_cases h : s.journal.records.length < 2048
  · rw [if_pos h, if_pos ((dayMarkRoom_true s).2 h), appendRecord_eq]; rfl
  · rw [if_neg h, if_neg (mt (dayMarkRoom_true s).1 h)]

theorem warmBlocks_eq (s : State) (c : StartCause) : s.warmBlocks c = s.warmKept c := by
  unfold State.warmBlocks State.warmKept
  have : s.journal.warm = { s.journal with
      timer := s.journal.reload
      cursor := match s.journal.records with
        | [] => s.journal.nextSeq
        | r :: _ => r.seq } := by
    unfold Journal.warm Journal.start
    rcases hr : s.journal.records with _ | ⟨r, l⟩ <;> simp [hr]
  rw [this]
  unfold LaneUnit.warm
  rw [mapEntries_eq]
  unfold EngineControl.warm
  rfl

/-- A warm start says its whole effect. -/
theorem warmStart_eq (s : State) (c : StartCause) : s.warmStart c = s.warmStarted c := by
  unfold State.warmStart State.warmStarted
  have : (s.warmBlocks c).catchUp = (if s.purses.firstDay = s.time.day then s.warmKept c
    else (s.warmKept c).dayMarked (if s.time.day = 0 then 65535 else s.time.day - 1)) := by
    unfold State.catchUp
    rw [warmBlocks_eq, writeDayMark_eq]; rfl
  rw [this]
  rfl

theorem rolloverNext_iff (s : State) : s.time.rolloverNext = true ↔ s.RolloverNext := by
  unfold TimeUnit.rolloverNext TimeUnit.minuteTickNext State.RolloverNext
  rw [Bool.and_eq_true, Bool.and_eq_true, decide_eq_true_eq, beq_iff_eq, and_assoc]
  apply and_congr_right; intro h
  apply and_congr_right; intro _
  unfold TimeUnit.advance
  rw [if_neg (by omega)]

theorem advance_eq (t : TimeUnit) (h : t.second ≤ 59) : t.advance = { t with second := if t.second = 59 then 0 else t.second + 1, minute := if t.second = 59 then (if t.minute < 1439 then t.minute + 1 else 0) else t.minute } := by
  unfold TimeUnit.advance
  by_cases c : t.second = 59
  · rw [if_neg (by omega), if_pos c, if_pos c]
  · rw [if_pos (by omega), if_neg c, if_neg c]

theorem nextDay_eq (d : Nat) (h : d ≤ 65535) : nextDay d = if d = 65535 then 0 else d + 1 := by
  unfold nextDay; simp only [Config.dayNumbers]; split <;> omega

theorem windowOfValue_bytes (w : Window) (h : w.start < 2048 ∧ w.stop < 2048) :
   windowOfValue (w.start + 2048 * w.stop + (if w.used then 4194304 else 0) + if w.subsidised then 8388608 else 0) = if w.used then w else Window.unused := by
  obtain ⟨u, a, b, c⟩ := w
  obtain ⟨h1, h2⟩ := h
  dsimp only at h1 h2 ⊢
  unfold windowOfValue
  cases u <;> cases c <;> simp only [if_true, if_false, Bool.false_eq_true]
  · rw [if_neg (by omega)]
  · rw [if_neg (by omega)]
  · rw [if_pos (by omega), Window.mk.injEq]
    exact ⟨rfl, by omega, by omega, decide_eq_false (by omega)⟩
  · rw [if_pos (by omega), Window.mk.injEq]
    exact ⟨rfl, by omega, by omega, decide_eq_true (by omega)⟩

theorem windowsBody_field (ws : List Window) (k : Nat) (hk : k < ws.length) :
   field (windowsBody ws) (3 * k) 3 = (ws[k].start + 2048 * ws[k].stop + (if ws[k].used then 4194304 else 0) + if ws[k].subsidised then 8388608 else 0) % 16777216 := by
  induction ws generalizing k with
  | nil => simp at hk
  | cons w ws ih =>
    have : windowsBody (w :: ws) = leBytes 3 (w.start + 2048 * w.stop + (if w.used then 4194304 else 0) + if w.subsidised then 8388608 else 0) ++ windowsBody ws := rfl
    rw [this]
    cases k with
    | zero =>
      rw [field_append_left (by rw [leBytes_length])]
      unfold field
      rw [Nat.mul_zero, List.drop_zero, List.take_of_length_le (by rw [leBytes_length]), leNat_leBytes_mod]
      rfl
    | succ k =>
      rw [field_behind (by omega), show 3 * (k+1) - 3 = 3 * k by omega]
      exact ih k (by simpa using hk)

theorem windowSetBody_spelled (ws : Vector Window 6) (h : ∀ w ∈ ws.toList, w.start < 2048 ∧ w.stop < 2048) :
    windowSetBody (windowsBody ws.toList) = some (Vector.ofFn fun k : Fin 6 => if ws[k].used then ws[k] else Window.unused) := by
  unfold windowSetBody
  have hlen : (windowsBody ws.toList).length = 18 := by
    have : ∀ l : List Window, (windowsBody l).length = 3 * l.length := by
      intro l; induction l with
      | nil => rfl
      | cons w l ih => rw [show windowsBody (w :: l) = leBytes 3 _ ++ windowsBody l from rfl, List.length_append, leBytes_length, ih, List.length_cons]; omega
    rw [this]; simp
  rw [bodyOf_eq hlen rfl]
  congr 2
  funext k
  have hk : k.val < ws.toList.length := by simp
  have hw := h ws.toList[k.val] (List.getElem_mem _)
  have hm : (ws.toList[k.val].start + 2048 * ws.toList[k.val].stop + (if ws.toList[k.val].used then 4194304 else 0) + if ws.toList[k.val].subsidised then 8388608 else 0) % 16777216 = ws.toList[k.val].start + 2048 * ws.toList[k.val].stop + (if ws.toList[k.val].used then 4194304 else 0) + if ws.toList[k.val].subsidised then 8388608 else 0 := by
    apply Nat.mod_eq_of_lt
    split_ifs <;> omega
  rw [windowsBody_field _ _ hk, hm, windowOfValue_bytes _ hw]
  simp

theorem overlaps_iff (v w : Window) : v.overlaps w = true ↔ v.used = true ∧ w.used = true ∧ v.start < w.stop ∧ w.start < v.stop := by
  simp [Window.overlaps, and_assoc]

theorem disjointWindows_iff (ws : List Window) : disjointWindows ws = true ↔ ws.Pairwise (fun v w => v.overlaps w = false) := by
  induction ws with
  | nil => simp [disjointWindows]
  | cons w ws ih =>
    rw [disjointWindows, Bool.and_eq_true, ih, List.pairwise_cons]
    have : (ws.all fun v => !w.overlaps v) = true ↔ ∀ a ∈ ws, w.overlaps a = false := by simp
    rw [this]

/-- The check of a window table says what R37 asks. -/
theorem windowTableGood_iff (ws : Vector Window 6) : windowTableGood (Vector.ofFn fun k : Fin 6 => if ws[k].used then ws[k] else Window.unused) = true ↔
   ((∀ w ∈ ws.toList, w.used = true → w.start < w.stop ∧ w.stop ≤ 1440) ∧
        ws.toList.Pairwise (fun v w => v.used = true → w.used = true →
          ∀ m, ¬ (v.start ≤ m ∧ m < v.stop ∧ w.start ≤ m ∧ m < w.stop))) := by
  have hl : (Vector.ofFn fun k : Fin 6 => if ws[k].used then ws[k] else Window.unused).toList = ws.toList.map (fun w => if w.used then w else Window.unused) := by
    apply List.ext_getElem
    · simp
    · intro i h1 h2; simp
  unfold windowTableGood
  rw [hl, Bool.and_eq_true, disjointWindows_iff, List.pairwise_map, List.all_map]
  have hA : (ws.toList.all (Window.boundsGood ∘ fun w => if w.used = true then w else Window.unused) = true) ↔ (∀ w ∈ ws.toList, w.used = true → w.start < w.stop ∧ w.stop ≤ 1440) := by
    rw [List.all_eq_true]
    apply forall_congr'; intro w; apply forall_congr'; intro _
    by_cases h : w.used = true <;> simp [h, Window.boundsGood, Window.unused]
  rw [hA]
  constructor
  · rintro ⟨h1, h2⟩
    refine ⟨h1, h2.imp_of_mem ?_⟩
    intro v w hv hw hvw hu hu' m hm
    rw [if_pos hu, if_pos hu', ← Bool.not_eq_true, overlaps_iff] at hvw
    apply hvw; refine ⟨hu, hu', ?_, ?_⟩ <;> omega
  · rintro ⟨h1, h2⟩
    refine ⟨h1, h2.imp_of_mem ?_⟩
    intro v w hv hw hvw
    rw [← Bool.not_eq_true, overlaps_iff]
    rintro ⟨a, b, c, d⟩
    by_cases hu : v.used = true
    · by_cases hu' : w.used = true
      · rw [if_pos hu] at a c d; rw [if_pos hu'] at b c d
        have b1 := h1 v hv hu
        have b2 := h1 w hw hu'
        rcases le_total v.start w.start with h | h
        · exact hvw hu hu' w.start ⟨h, d, le_refl _, b2.1⟩
        · exact hvw hu hu' v.start ⟨le_refl _, b1.1, h, c⟩
      · rw [if_neg hu'] at b; simp [Window.unused] at b
    · rw [if_neg hu] at a; simp [Window.unused] at a

end Sys2Proof.Machine
end

