-- ==== Sys2Proof/WellFormed.lean ====
section
/-! DEFINITION. Which commands the outside can send: the limits the frames and the lines put on a command's operands. -/

namespace Sys2Proof

/-- A lane request comes from an address 1 to 14 (R160) with a body of at most 12 characters (R158). -/
def laneRequestWf (station : Nat) (body : List Byte) : Bool :=
  decide (1 ≤ station) && decide (station ≤ 14) && decide (body.length ≤ Config.maxLaneBody)

/-- An office command has a body of at most 32 characters (R171). -/
def officeBodyWf (body : List Byte) : Bool :=
  decide (body.length ≤ Config.maxOfficeBody)

/-- A request kind outside the seven of R86, as its character. -/
def unknownKindWf (kind : Byte) : Bool :=
  decide (kind.toNat = 0) || decide (8 ≤ kind.toNat)

/-- The commands that can come about. -/
def Instr.wellFormed : Instr → Bool
  | .bal st b | .hold st b | .settle st b | .sale st b | .drop st b | .cash st b | .repeatReply st b => laneRequestWf st b
  | .unknownRequestKind st k b => laneRequestWf st b && unknownKindWf k
  | .laneFrameEnd _ _ b _ => decide (b.length ≤ Config.maxLaneBody)
  | .officeFrameEnd _ b _ => officeBodyWf b
  | .enrol b | .retire b | .block b | .unblock b | .reclass b | .adjust b | .purseRead b | .purseNext b | .classSet b
  | .credit b | .batchOpen b | .batchItem b | .batchClose b | .batchAbort b | .batchResult b
  | .clockSet b | .rolloverSet b | .windowSet b | .stationSet b
  | .jnlNext b | .jnlConfirm b | .jnlRewind b | .journalSet b
  | .go b | .freeze b | .thaw b | .restart b | .watchSet b | .attnTake b | .attnDone b | .attnEnable b
  | .laneRateSet b | .status b | .statusClear b => officeBodyWf b
  | .secondsTick order => decide order.Nodup
  | .parityRefusal | .laneLengthAbandon | .laneFrameTimeout | .brokenWaitEnd | .turnaroundEnd | .replyPreempt
  | .replyCollision | .replyComplete | .breakRisingEdge _ | .ratedBreakDetect | .answeringBreakEnd | .framingError
  | .resyncEnd | .officeLengthAbandon | .officeFrameTimeout | .officeReplyEnd | .restartWarmStart | .holdExpiry
  | .freezeLimitExpiry | .overdueBegin | .resetAssert | .resetRelease _ | .powerLoss | .retentionLoss | .powerReturn
  | .laneFrameStart | .officeFrameStart | .restartMarkEnd | .startBreakEnd => true

end Sys2Proof
end

