-- ==== Sys2Proof/Laws/PerInstr.lean ====
section
/-! SUPPORT. One lemma for each command: the body of a well-formed command fits the frame that carries it, and its station is
an address of the lane bus (R158, R160, R171). -/

namespace Sys2Proof.Laws.RowBodyFits

open Sys2Proof Sys2Proof.Machine

/-- A well-formed lane request comes from an address 1 to 14 with a body of at most 12 characters, and a well-formed office
command has a body of at most 32, the most its frame can carry. -/
def Statement (i : Instr) : Prop :=
  i.wellFormed = true →
    (∀ station kind body, laneForm i = some (station, kind, body) → 1 ≤ station ∧ station ≤ 14 ∧ body.length ≤ 12) ∧
    (∀ kind length body, officeForm i = some (kind, length, body) → body.length ≤ 32)

/-- A command on neither link. -/
theorem of_event (i : Instr) (h1 : laneForm i = none) (h2 : officeForm i = none) : Statement i := by
  intro _
  simp [h1, h2]

/-- An office command: its form gives a body that is well formed. -/
theorem of_office (i : Instr) (kind : Byte) (length : Nat) (body : List Byte) (h1 : laneForm i = none)
    (h2 : officeForm i = some (kind, length, body)) (h3 : i.wellFormed = officeBodyWf body) : Statement i := by
  intro hw
  rw [h3] at hw
  simp [officeBodyWf] at hw
  refine ⟨by simp [h1], ?_⟩
  intro k n b hb
  rw [h2] at hb
  simp only [Option.some.injEq, Prod.mk.injEq] at hb
  rw [← hb.2.2]
  exact hw

/-- A lane request: its form gives a station and a body that are well formed. -/
theorem of_lane (i : Instr) (station : Nat) (kind : Byte) (body : List Byte) (h1 : officeForm i = none)
    (h2 : laneForm i = some (station, kind, body)) (h3 : i.wellFormed = laneRequestWf station body) : Statement i := by
  intro hw
  rw [h3] at hw
  simp [laneRequestWf] at hw
  refine ⟨?_, by simp [h1]⟩
  intro st k b hb
  rw [h2] at hb
  simp only [Option.some.injEq, Prod.mk.injEq] at hb
  rw [← hb.1, ← hb.2.2]
  exact ⟨hw.1.1, hw.1.2, hw.2⟩

theorem bal (station : Nat) (body : List Byte) : Statement (.bal station body) := of_lane _ _ _ _ rfl rfl rfl

theorem hold (station : Nat) (body : List Byte) : Statement (.hold station body) := of_lane _ _ _ _ rfl rfl rfl

theorem settle (station : Nat) (body : List Byte) : Statement (.settle station body) := of_lane _ _ _ _ rfl rfl rfl

theorem sale (station : Nat) (body : List Byte) : Statement (.sale station body) := of_lane _ _ _ _ rfl rfl rfl

theorem drop (station : Nat) (body : List Byte) : Statement (.drop station body) := of_lane _ _ _ _ rfl rfl rfl

theorem cash (station : Nat) (body : List Byte) : Statement (.cash station body) := of_lane _ _ _ _ rfl rfl rfl

theorem repeatReply (station : Nat) (body : List Byte) : Statement (.repeatReply station body) := of_lane _ _ _ _ rfl rfl rfl

theorem laneFrameEnd (address kind : Byte) (body : List Byte) (check : Byte) : Statement (.laneFrameEnd address kind body check) := of_event _ rfl rfl

theorem parityRefusal : Statement (.parityRefusal) := of_event _ rfl rfl

theorem laneLengthAbandon : Statement (.laneLengthAbandon) := of_event _ rfl rfl

theorem laneFrameTimeout : Statement (.laneFrameTimeout) := of_event _ rfl rfl

theorem brokenWaitEnd : Statement (.brokenWaitEnd) := of_event _ rfl rfl

theorem turnaroundEnd : Statement (.turnaroundEnd) := of_event _ rfl rfl

theorem replyPreempt : Statement (.replyPreempt) := of_event _ rfl rfl

theorem replyCollision : Statement (.replyCollision) := of_event _ rfl rfl

theorem replyComplete : Statement (.replyComplete) := of_event _ rfl rfl

theorem breakRisingEdge (periods : Nat) : Statement (.breakRisingEdge periods) := of_event _ rfl rfl

theorem ratedBreakDetect : Statement (.ratedBreakDetect) := of_event _ rfl rfl

theorem answeringBreakEnd : Statement (.answeringBreakEnd) := of_event _ rfl rfl

theorem framingError : Statement (.framingError) := of_event _ rfl rfl

theorem resyncEnd : Statement (.resyncEnd) := of_event _ rfl rfl

theorem officeLengthAbandon : Statement (.officeLengthAbandon) := of_event _ rfl rfl

theorem officeFrameTimeout : Statement (.officeFrameTimeout) := of_event _ rfl rfl

theorem officeFrameEnd (kind : Byte) (body : List Byte) (check : Byte) : Statement (.officeFrameEnd kind body check) := of_event _ rfl rfl

theorem officeReplyEnd : Statement (.officeReplyEnd) := of_event _ rfl rfl

theorem enrol (body : List Byte) : Statement (.enrol body) := of_office _ _ _ _ rfl rfl rfl

theorem retire (body : List Byte) : Statement (.retire body) := of_office _ _ _ _ rfl rfl rfl

theorem block (body : List Byte) : Statement (.block body) := of_office _ _ _ _ rfl rfl rfl

theorem unblock (body : List Byte) : Statement (.unblock body) := of_office _ _ _ _ rfl rfl rfl

theorem reclass (body : List Byte) : Statement (.reclass body) := of_office _ _ _ _ rfl rfl rfl

theorem adjust (body : List Byte) : Statement (.adjust body) := of_office _ _ _ _ rfl rfl rfl

theorem purseRead (body : List Byte) : Statement (.purseRead body) := of_office _ _ _ _ rfl rfl rfl

theorem purseNext (body : List Byte) : Statement (.purseNext body) := of_office _ _ _ _ rfl rfl rfl

theorem classSet (body : List Byte) : Statement (.classSet body) := of_office _ _ _ _ rfl rfl rfl

theorem credit (body : List Byte) : Statement (.credit body) := of_office _ _ _ _ rfl rfl rfl

theorem batchOpen (body : List Byte) : Statement (.batchOpen body) := of_office _ _ _ _ rfl rfl rfl

theorem batchItem (body : List Byte) : Statement (.batchItem body) := of_office _ _ _ _ rfl rfl rfl

theorem batchClose (body : List Byte) : Statement (.batchClose body) := of_office _ _ _ _ rfl rfl rfl

theorem batchAbort (body : List Byte) : Statement (.batchAbort body) := of_office _ _ _ _ rfl rfl rfl

theorem batchResult (body : List Byte) : Statement (.batchResult body) := of_office _ _ _ _ rfl rfl rfl

theorem clockSet (body : List Byte) : Statement (.clockSet body) := of_office _ _ _ _ rfl rfl rfl

theorem rolloverSet (body : List Byte) : Statement (.rolloverSet body) := of_office _ _ _ _ rfl rfl rfl

theorem windowSet (body : List Byte) : Statement (.windowSet body) := of_office _ _ _ _ rfl rfl rfl

theorem stationSet (body : List Byte) : Statement (.stationSet body) := of_office _ _ _ _ rfl rfl rfl

theorem jnlNext (body : List Byte) : Statement (.jnlNext body) := of_office _ _ _ _ rfl rfl rfl

theorem jnlConfirm (body : List Byte) : Statement (.jnlConfirm body) := of_office _ _ _ _ rfl rfl rfl

theorem jnlRewind (body : List Byte) : Statement (.jnlRewind body) := of_office _ _ _ _ rfl rfl rfl

theorem journalSet (body : List Byte) : Statement (.journalSet body) := of_office _ _ _ _ rfl rfl rfl

theorem go (body : List Byte) : Statement (.go body) := of_office _ _ _ _ rfl rfl rfl

theorem freeze (body : List Byte) : Statement (.freeze body) := of_office _ _ _ _ rfl rfl rfl

theorem thaw (body : List Byte) : Statement (.thaw body) := of_office _ _ _ _ rfl rfl rfl

theorem restart (body : List Byte) : Statement (.restart body) := of_office _ _ _ _ rfl rfl rfl

theorem restartWarmStart : Statement (.restartWarmStart) := of_event _ rfl rfl

theorem watchSet (body : List Byte) : Statement (.watchSet body) := of_office _ _ _ _ rfl rfl rfl

theorem attnTake (body : List Byte) : Statement (.attnTake body) := of_office _ _ _ _ rfl rfl rfl

theorem attnDone (body : List Byte) : Statement (.attnDone body) := of_office _ _ _ _ rfl rfl rfl

theorem attnEnable (body : List Byte) : Statement (.attnEnable body) := of_office _ _ _ _ rfl rfl rfl

theorem laneRateSet (body : List Byte) : Statement (.laneRateSet body) := of_office _ _ _ _ rfl rfl rfl

theorem status (body : List Byte) : Statement (.status body) := of_office _ _ _ _ rfl rfl rfl

theorem statusClear (body : List Byte) : Statement (.statusClear body) := of_office _ _ _ _ rfl rfl rfl

theorem secondsTick (order : List TickTaker) : Statement (.secondsTick order) := of_event _ rfl rfl

theorem holdExpiry : Statement (.holdExpiry) := of_event _ rfl rfl

theorem freezeLimitExpiry : Statement (.freezeLimitExpiry) := of_event _ rfl rfl

theorem overdueBegin : Statement (.overdueBegin) := of_event _ rfl rfl

theorem resetAssert : Statement (.resetAssert) := of_event _ rfl rfl

theorem resetRelease (lowNanoseconds : Nat) : Statement (.resetRelease lowNanoseconds) := of_event _ rfl rfl

theorem powerLoss : Statement (.powerLoss) := of_event _ rfl rfl

theorem retentionLoss : Statement (.retentionLoss) := of_event _ rfl rfl

theorem powerReturn : Statement (.powerReturn) := of_event _ rfl rfl

theorem laneFrameStart : Statement (.laneFrameStart) := of_event _ rfl rfl

theorem officeFrameStart : Statement (.officeFrameStart) := of_event _ rfl rfl

theorem restartMarkEnd : Statement (.restartMarkEnd) := of_event _ rfl rfl

theorem startBreakEnd : Statement (.startBreakEnd) := of_event _ rfl rfl

theorem unknownRequestKind (station : Nat) (kind : Byte) (body : List Byte) : Statement (.unknownRequestKind station kind body) := by
  intro hw
  simp [Instr.wellFormed, laneRequestWf] at hw
  refine ⟨?_, fun _ _ _ h => by simp [officeForm] at h⟩
  intro st k b hb
  simp only [laneForm] at hb
  split at hb
  · simp only [Option.some.injEq, Prod.mk.injEq] at hb
    rw [← hb.1, ← hb.2.2]
    exact ⟨hw.1.1.1, hw.1.1.2, hw.1.2⟩
  · simp at hb

end Sys2Proof.Laws.RowBodyFits
end

