-- ==== Sys2Proof/Tests/Slice0.lean ====
section
/-! SUPPORT. The model's own tests: an ill-formed command for each check of WellFormed, one state and operands for the hypotheses
of each statement, clause by clause, and a few of the manual's worked examples, one step each. -/

namespace Sys2Proof.Tests

open Sys2Proof Sys2Proof.Machine

/-! ## Well-formed commands -/

theorem test_wf_station_low : (Instr.bal 0 (leBytes 4 1)).wellFormed = false := by decide

theorem test_wf_station_high : (Instr.sale 15 (leBytes 7 0)).wellFormed = false := by decide

theorem test_wf_lane_body : (Instr.repeatReply 1 (List.replicate 13 0)).wellFormed = false := by decide

theorem test_wf_lane_frame : (Instr.laneFrameEnd 1 7 (List.replicate 13 0) 0).wellFormed = false := by decide

theorem test_wf_office_body : (Instr.enrol (List.replicate 33 0)).wellFormed = false := by decide

theorem test_wf_office_frame : (Instr.officeFrameEnd 1 (List.replicate 33 0) 0).wellFormed = false := by decide

theorem test_wf_unknown_kind_low : (Instr.unknownRequestKind 1 1 []).wellFormed = false := by decide

theorem test_wf_unknown_kind_high : (Instr.unknownRequestKind 14 7 []).wellFormed = false := by decide

theorem test_wf_tick_order : (Instr.secondsTick [.journal, .journal]).wellFormed = false := by decide

theorem test_wf_boundaries :
    (Instr.cash 14 (List.replicate 12 0)).wellFormed = true ∧ (Instr.unknownRequestKind 1 0 []).wellFormed = true ∧
    (Instr.unknownRequestKind 1 8 []).wellFormed = true ∧ (Instr.enrol (List.replicate 32 0)).wellFormed = true ∧
    (Instr.secondsTick [.holdUnit, .engineControl, .journal, .rollover]).wellFormed = true := by decide

/-! ## The states of the tests -/

/-- The state after reset with the restart mark and the start break sent and the link rated at 9,604 bit/s. -/
def open' : State :=
  { State.reset with
    port := { State.reset.port with receiver := .idle }
    office := { State.reset.office with bitTime := some 833, transmit := .idle } }

/-- A purse with nothing spent and no hold. -/
def plain (card : Nat) (balance : Int) : Purse :=
  { card := card, state := .active, cls := 0, balance := balance, holdStation := none, daySpend := 0, daySpendStamp := none,
    windowUsed := 0, occurrence := none }

/-- A CREDIT record. -/
def creditRecord (seq card : Nat) : Record :=
  { seq := seq, source := 0, minute := 600, day := 5, body := .credit card 100 5000 }

/-- A day at work: a plain purse 1, a blocked purse 2, purse 3 with a hold at station 1 in its last second, purse 99,999,999 with a
hold at station 14; stations 1 and 14 tills, 2 a kiosk; three records, one of them read; the engine RUNNING in a subsidised
window. -/
def day : State :=
  { open' with
    purses := { open'.purses with
      purses := [plain 1 5000, { plain 2 0 with state := .blocked }, { plain 3 100000 with holdStation := some 1 },
        { plain 99999999 20000 with holdStation := some 14 }]
      classes := Vector.replicate 8 { rate := 500, cap := 1000, floor := -2000, dayLimit := 10000, holdCeiling := 2000 }
      floatTotal := 125000 }
    time := { open'.time with
      second := 30, minute := 600, day := 5, valid := true
      windows := open'.time.windows.set 0 { used := true, start := 300, stop := 480, subsidised := true } }
    holds := { open'.holds with
      stations := ((open'.holds.stations.set 0 { kind := .till, quota := 4, lifetime := 180 }).set 13
        { kind := .till, quota := 8, lifetime := 900 }).set 1 { kind := .kiosk, quota := 0, lifetime := 30 }
      holds := [{ card := 3, station := 1, granted := 0, remaining := 1 },
        { card := 99999999, station := 14, granted := 2000, remaining := 900 }]
      lastExpired := open'.holds.lastExpired.set 0 (some 1) }
    journal := { open'.journal with
      records := [creditRecord 4294967295 1, creditRecord 1 1, creditRecord 2 1], nextSeq := 3, cursor := 1 }
    engine := { open'.engine with state := .running } }

/-- The same day while the engine is FROZEN. -/
def frozen : State :=
  { day with engine := { day.engine with state := .frozen, reason := some .office, timer := 1 } }

/-- The same day with the office link sending its reply. -/
def answering : State := day.replied .ok [1]

/-- The same day with the lane bus port waiting for the outcome of one frame. -/
def asked (s : State) (station : Nat) (kind : Byte) (body : List Byte) : State :=
  { s with port := { s.port with
    receiver := .turnaround .awaited, handed := [{ station := station, kind := kind, body := body }] } }

/-- The same day with another lane receiver state. -/
def laneAt (r : LaneReceiver) : State := { day with port := { day.port with receiver := r } }

/-- The same day with another office receiver state. -/
def officeAt (r : OfficeReceiver) : State := { day with office := { day.office with receiver := r } }

/-- The same day one second before the rollover of day 65,535, with the flag on. -/
def dayEnd : State :=
  { day with time := { day.time with second := 59, minute := 239, day := 65535, rolloverFreeze := true } }

/-- The same day with every tick due. -/
def due (s : State) : State := { s with ticks := { hold := true, engine := true, journal := true } }

/-- The state after reset once a break of the office has been accepted while the start break is still being sent. -/
def ratedInStartBreak : State :=
  { State.reset with office := { State.reset.office with bitTime := some 69, transmit := .startBreak true } }

/-- An open batch of one item. -/
def batch : State :=
  { day with credit := { day.credit with
    state := .opened, batchId := 1, declaredCount := 1, declaredTotal := 200000
    staging := [{ card := 1, amount := 200000 }], stagedSum := 200000 } }

/-! ## The hypotheses of the statements, met -/

theorem witness_StepTakesFrontCommand : State.reset.pending = [] := by decide

theorem witness_EnrolResult :
    day.OfficeOpen ∧ day.PursesSound ∧ 1 ≤ 1 ∧ 99999999 ≤ 99999999 ∧ 0 < 16777216 ∧ 16777215 < 16777216 := by decide

theorem witness_RetireResult :
    day.OfficeOpen ∧ 1 ≤ 1 ∧ 1 ≤ 99999999 ∧ 1 ≤ 99999998 ∧ day.purse? 1 = some (plain 1 5000) ∧
      day.purse? 99999998 = none ∧ (day.purse? 99999999).bind Purse.holdStation = some 14 := by decide

theorem witness_BlockResult :
    day.OfficeOpen ∧ 1 ≤ 1 ∧ 99999999 ≤ 99999999 ∧ (day.purse? 1).map Purse.state = some .active ∧
      (day.purse? 2).map Purse.state = some .blocked ∧ (day.purse? 99999999).bind Purse.holdStation = some 14 := by decide

theorem witness_UnblockReclassResult : day.OfficeOpen ∧ 1 ≤ 1 ∧ 99999999 ≤ 99999999 ∧ day.purse? 4 = none := by decide

theorem witness_AdjustResult :
    day.OfficeOpen ∧ 1 ≤ 1 ∧ 99999999 ≤ 99999999 ∧ (-2147483648 : Int) ≤ -2147483648 ∧ (2147483647 : Int) ≤ 2147483647 := by
  decide

theorem witness_PurseReadNextResult :
    day.OfficeOpen ∧ day.PursesSound ∧ 99999999 ≤ 99999999 ∧ (∃ p ∈ day.purses.purses, p.card = 99999999) ∧
    (∀ p ∈ day.purses.purses, p.card ≠ 4) ∧
    (∃ p ∈ day.purses.purses, 0 < p.card ∧ ∀ q ∈ day.purses.purses, 0 < q.card → p.card ≤ q.card) ∧
    (∃ p ∈ day.purses.purses, 3 < p.card ∧ ∀ q ∈ day.purses.purses, 3 < q.card → p.card ≤ q.card) ∧
    (∀ q ∈ day.purses.purses, q.card ≤ 99999999) := by decide

theorem witness_ClassSetResult :
    day.OfficeOpen ∧ 65535 < 65536 ∧ (-32768 : Int) ≤ -32768 ∧ (32767 : Int) ≤ 32767 ∧ 16777215 < 16777216 := by decide

theorem witness_OfficeCommandAnswered_good :
    officeForm (.go []) = some (17, 0, []) ∧ day.OfficeOpen := by decide

theorem witness_OfficeCommandAnswered_refused :
    officeForm (.go [0]) = some (17, 0, [0]) ∧ ([0] : List Byte).length ≠ 0 ∧ badField (.jnlConfirm (leBytes 4 0)) ∧
      badField (.status [7, 1]) ∧ badField (.status [2, 5]) ∧ badField (.status [3, 2]) ∧ day.OfficeOpen := by
  refine ⟨by decide, by decide, ?_, ?_, ?_, ?_, by decide⟩ <;> unfold badField <;> decide

theorem witness_CommandNotTaken :
    officeForm (.go []) = some (17, 0, []) ∧ answering.OfficeHears ∧ answering.office.replyPeriod = true ∧
      ¬ State.reset.OfficeHears ∧ State.reset.office.transmit = .startBreak false ∧ State.reset.PortsSound ∧
    (ratedInStartBreak.office.transmit = .startBreak true ∧ ratedInStartBreak.PortsSound) :=
  ⟨by decide, by decide, by decide, by decide, by decide, by decide, by decide, by decide⟩

theorem witness_OfficeFrameJudged_command :
    ([] : List Byte).length ≤ 32 ∧ officeSumZero 17 [] 239 ∧ officeForm (.go []) = some (17, 0, []) ∧
    (List.replicate 32 (0 : Byte)).length ≤ 32 ∧ officeSumZero 26 (List.replicate 32 0) 198 ∧
      officeForm (.jnlNext (List.replicate 32 0)) = some (26, 0, List.replicate 32 0) := by decide

theorem witness_OfficeFrameJudged_refused :
    day.OfficeHears ∧ answering.OfficeHears ∧ 32 < (List.replicate 33 (0 : Byte)).length ∧ ¬ officeSumZero 1 [] 254 ∧
      officeSumZero 0 [] 0 ∧ officeSumZero 35 [] 221 ∧ (0 : Byte).toNat = 0 ∧ 34 < (35 : Byte).toNat := by decide

theorem witness_OfficeReceptionEvents :
    (day.OfficeHears ∧ day.office.receiver = .seeking) ∧
    ((officeAt .receiving).OfficeHears ∧ (officeAt .receiving).office.receiver = .receiving) ∧
    (day.Powered ∧ day.office.bitTime ≠ none) ∧
    (ratedInStartBreak.Powered ∧ ratedInStartBreak.office.bitTime ≠ none) ∧
    ((officeAt .resync).Powered ∧ (officeAt .resync).office.receiver = .resync) := by decide

theorem witness_BreakDecidesRate :
    day.Powered ∧ State.reset.Powered ∧ ratedInStartBreak.Powered ∧ (10 * 68 ≤ 684 + 5 ∧ 684 + 5 < 10 * 68 + 10) ∧
      (10 * 69 ≤ 685 + 5 ∧ 685 + 5 < 10 * 69 + 10) ∧ (10 * 1667 ≤ 16674 + 5 ∧ 16674 + 5 < 10 * 1667 + 10) ∧
      (10 * 1668 ≤ 16675 + 5 ∧ 16675 + 5 < 10 * 1668 + 10) := by decide

theorem witness_OfficeSendingEnds :
    (answering.Powered ∧ answering.office.transmit = .reply { status := .ok, flags := LinkFlags.clear, body := [1] } ∧
      answering.office.restartPending = false) ∧
    (let s : State := { day with office := { day.office with transmit := .answeringBreak } };
      s.Powered ∧ s.office.transmit = .answeringBreak ∧ s.office.restartPending = false) ∧
    (State.reset.Powered ∧ State.reset.office.transmit = .startBreak false) ∧
    (ratedInStartBreak.Powered ∧ ratedInStartBreak.office.transmit = .startBreak true) := by decide

theorem witness_CreditResult :
    day.OfficeOpen ∧ 1 ≤ 1 ∧ 99999999 ≤ 99999999 ∧ 0 < 16777216 ∧ 16777215 < 16777216 ∧ day.engine.state ≠ .unset := by
  decide

theorem witness_BatchOpenAndItemResult :
    day.OfficeOpen ∧ batch.OfficeOpen ∧ 1 ≤ 65535 ∧ 65535 < 65536 ∧ 4294967295 < 4294967296 ∧ 16777215 < 16777216 ∧
      batch.credit.state = .opened ∧ batch.credit.declaredCount ≤ batch.credit.staging.length := by decide

theorem witness_BatchCloseResult :
    batch.OfficeOpen ∧ batch.credit.state = .opened ∧ batch.engine.state ≠ .unset ∧
      batch.credit.staging.length = batch.credit.declaredCount ∧ batch.credit.stagedSum = batch.credit.declaredTotal := by
  decide

theorem witness_BatchAbortAndResult : batch.OfficeOpen ∧ day.OfficeOpen ∧ 0 ≤ 512 ∧ 512 ≤ 512 := by decide

theorem witness_ClockRolloverSetResult :
    day.OfficeOpen ∧ frozen.OfficeOpen ∧ 65535 ≤ 65535 ∧ 1439 ≤ 1439 ∧ 59 ≤ 59 := by decide

/-- A table whose two used entries meet without a common day minute. -/
def windowsGood : Vector Window 6 :=
  ((Vector.replicate 6 Window.unused).set 0 { used := true, start := 0, stop := 300, subsidised := false }).set 5
    { used := true, start := 300, stop := 1440, subsidised := true }

/-- A table whose two used entries share day minute 299. -/
def windowsBad : Vector Window 6 :=
  windowsGood.set 5 { used := true, start := 299, stop := 1440, subsidised := true }

theorem witness_WindowSetResult_good :
    frozen.OfficeOpen ∧ frozen.engine.state ≠ .running ∧ (∀ w ∈ windowsGood.toList, w.start < 2048 ∧ w.stop < 2048) ∧
      (∀ w ∈ windowsGood.toList, w.used = true → w.start < w.stop ∧ w.stop ≤ 1440) ∧
      windowsGood.toList.Pairwise (fun v w => v.used = true → w.used = true →
        ∀ m, ¬ (v.start ≤ m ∧ m < v.stop ∧ w.start ≤ m ∧ m < w.stop)) := by
  refine ⟨by decide, by decide, by decide, by decide, ?_⟩
  simp only [windowsGood, Window.unused, Vector.toList, Vector.set, Vector.replicate, Array.toList_set,
    Array.toList_replicate]
  simp [List.replicate]
  omega

theorem witness_WindowSetResult_bad :
    frozen.OfficeOpen ∧ frozen.engine.state ≠ .running ∧ (∀ w ∈ windowsBad.toList, w.start < 2048 ∧ w.stop < 2048) ∧
      ¬ ((∀ w ∈ windowsBad.toList, w.used = true → w.start < w.stop ∧ w.stop ≤ 1440) ∧
        windowsBad.toList.Pairwise (fun v w => v.used = true → w.used = true →
          ∀ m, ¬ (v.start ≤ m ∧ m < v.stop ∧ w.start ≤ m ∧ m < w.stop))) := by
  refine ⟨by decide, by decide, by decide, ?_⟩
  rintro ⟨-, h⟩
  have h1 := List.pairwise_iff_getElem.mp h 0 5 (by decide) (by decide) (by decide) rfl rfl 299
  exact h1 (by decide)

theorem witness_WindowSetResult_running :
    day.OfficeOpen ∧ day.engine.state = .running ∧ (∀ w ∈ windowsGood.toList, w.start < 2048 ∧ w.stop < 2048) := by decide

theorem day_clock_sound : day.ClockEngineSound := by
  refine ⟨by decide, by decide, by decide, by decide, by decide, by decide, by decide, by decide, ?_, by decide⟩
  simp [day, open', plain]

theorem witness_DayMinuteAndWindow : day.ClockEngineSound ∧ day.time.windowFound = some (0, true) :=
  ⟨day_clock_sound, by decide⟩

theorem witness_StationSetResult :
    day.OfficeOpen ∧ day.PursesSound ∧ day.HoldsSound ∧ 1 ≤ 1 ∧ 14 ≤ 14 ∧ 255 < 256 ∧ 65535 < 65536 ∧
      (day.queue 14).length = 1 := by decide

theorem witness_JnlNextRewindResult :
    day.OfficeOpen ∧ day.JournalSound ∧ (∃ r ∈ day.journal.records, r.seq = day.journal.cursor) ∧
    State.reset.JournalSound ∧ State.reset.journal.cursor = State.reset.journal.nextSeq ∧
    (let s : State := { day with journal := { day.journal with cursor := 4294967295 } };
      s.OfficeOpen ∧ s.JournalSound ∧ ∃ r ∈ s.journal.records, r.seq = s.journal.cursor) := by decide

theorem witness_JnlConfirmResult_removed :
    day.OfficeOpen ∧ day.JournalSound ∧ 4294967295 ≤ 4294967295 ∧
      day.journal.records = [] ++ creditRecord 4294967295 1 :: [creditRecord 1 1, creditRecord 2 1] ∧
      (creditRecord 4294967295 1).seq = 4294967295 ∧
      day.journal.cursor ∈ [creditRecord 1 1, creditRecord 2 1].map Record.seq ++ [day.journal.nextSeq] := by decide

theorem witness_JnlConfirmResult_refused :
    day.OfficeOpen ∧ day.JournalSound ∧ (∀ r ∈ day.journal.records, r.seq ≠ 3) ∧
      day.journal.records = [creditRecord 4294967295 1] ++ creditRecord 1 1 :: [creditRecord 2 1] ∧
      (creditRecord 1 1).seq = 1 ∧ day.journal.cursor ∈ [creditRecord 4294967295 1].map Record.seq ++ [(creditRecord 1 1).seq] := by
  decide

theorem witness_JournalSetResult : day.OfficeOpen ∧ day.JournalSound ∧ 65535 < 65536 ∧ 255 < 256 := by decide

theorem witness_EngineCommandsResult :
    day.OfficeOpen ∧ frozen.OfficeOpen ∧ open'.OfficeOpen ∧ 0 < 256 ∧ 255 < 256 ∧ frozen.engine.state = .frozen ∧
      open'.engine.state = .unset := by decide

/-- The same day with a latched cause and an acknowledged level cause pending, ROLLOVER enabled. -/
def causes : State :=
  { day with attention :=
    { pending := { CauseFlags.clear with rollover := true, overdue := true }
      acknowledged := { CauseFlags.clear with overdue := true }
      condition := CauseFlags.clear, enabled := { CauseFlags.clear with rollover := true }, taken := false } }

theorem witness_AttnTakeResult :
    causes.OfficeOpen ∧ causeEligible causes.attention .rollover ∧
    (∀ d : Cause, causeEligible causes.attention d → d.number ≤ Cause.number .rollover) ∧
    day.OfficeOpen ∧ ∀ c : Cause, ¬ causeEligible day.attention c :=
  ⟨by decide, by decide, by intro d; cases d <;> decide, by decide, by intro c; cases c <;> decide⟩

theorem witness_SettingsResult :
    day.OfficeOpen ∧ 0 ≤ 99999999 ∧ 99999999 ≤ 99999999 ∧ 96 < 65536 ∧ 65535 < 65536 := by decide

theorem witness_StatusPages :
    day.OfficeOpen ∧ 0 ≤ 4 ∧ 4 ≤ 4 ∧ day.office.bitTime = some 833 ∧ 0 < 833 := by decide

theorem witness_LaneFrameJudged :
    day.Powered ∧ day.port.receiver = .idle ∧ (laneAt .receiving).port.receiver = .receiving ∧
      12 < (List.replicate 13 (0 : Byte)).length ∧ ¬ laneSumZero 1 7 [] 0 ∧ laneSumZero 0 7 [] 249 ∧
      (day.station 0).kind = .none ∧ (day.station 15).kind = .none ∧ laneSumZero 14 7 [] 235 ∧
      (day.station 14).kind ≠ .none := by decide

theorem witness_LaneReceptionEvents :
    day.Powered ∧ day.port.receiver = .idle ∧
    ((laneAt .receiving).Powered ∧ (laneAt .receiving).port.receiver = .receiving) ∧
    ((laneAt (.broken true)).Powered ∧ (laneAt (.broken true)).port.receiver = .broken true) ∧
    ((laneAt (.broken false)).Powered ∧ (laneAt (.broken false)).port.receiver = .broken false) ∧
    (State.reset.Powered ∧ State.reset.port.receiver = .mark) := by decide

/-- A reply of a station. -/
def held (station : Nat) : LaneReply :=
  { station := station, status := .ok, overdue := false, short := false, repeated := false, body := [] }

theorem witness_TurnaroundAndReply :
    ((laneAt (.turnaround (.reply (held 1)))).Powered ∧
      (laneAt (.turnaround (.reply (held 1)))).port.receiver = .turnaround (.reply (held 1))) ∧
    ((laneAt (.turnaround .noReply)).Powered ∧
      (laneAt (.turnaround .noReply)).port.receiver = .turnaround .noReply) ∧
    ((asked day 1 1 []).Powered ∧ (asked day 1 1 []).port.receiver = .turnaround .awaited) ∧
    ((laneAt (.replying (held 14))).Powered ∧ (laneAt (.replying (held 14))).port.receiver = .replying (held 14) ∧
      1 ≤ (held 1).station ∧ (held 14).station ≤ 14) := by decide

/-- The same day with a BAL of station 1 handed on and pre-empted by a start bit, and a REPEAT of station 14 handed on after
it and waited for. -/
def preempted (r : LaneReceiver) (later : List LaneFrame) : State :=
  { day with port := { day.port with
    receiver := r, handed := { station := 1, kind := 1, body := leBytes 4 1 } :: later } }

theorem witness_TurnaroundAndReply_preempted :
    ∃ t u, laneForm (.bal 1 (leBytes 4 1)) = some (1, 1, leBytes 4 1) ∧ (preempted .receiving []).Powered ∧
      (preempted .receiving []).port.receiver ≠ .mark ∧
      (preempted .receiving []).port.receiver ≠ .turnaround .awaited ∧
      exec (.bal 1 (leBytes 4 1)) { preempted .receiving [] with port := { (preempted .receiving []).port with
        receiver := .turnaround .awaited, handed := [{ station := 1, kind := 1, body := leBytes 4 1 }] } } = .next t ∧
      (preempted (.turnaround .awaited) [{ station := 14, kind := 7, body := [] }]).Powered ∧
      (preempted (.turnaround .awaited) [{ station := 14, kind := 7, body := [] }]).port.receiver ≠ .mark ∧
      [({ station := 14, kind := 7, body := [] } : LaneFrame)] ≠ [] ∧
      exec (.bal 1 (leBytes 4 1)) { preempted (.turnaround .awaited) [{ station := 14, kind := 7, body := [] }] with
        port := { (preempted (.turnaround .awaited) [{ station := 14, kind := 7, body := [] }]).port with
          receiver := .turnaround .awaited, handed := [{ station := 1, kind := 1, body := leBytes 4 1 }] } } = .next u :=
  ⟨_, _, by decide, by decide, by decide, by decide, rfl, by decide, by decide, by decide, rfl⟩

theorem witness_CommonChecksRefuse_form :
    (asked day 1 1 []).LaneAsked 1 RequestKind.bal.code [] ∧ ([] : List Byte).length ≠ 4 ∧
    (asked day 1 5 (leBytes 4 0)).LaneAsked 1 RequestKind.drop.code (leBytes 4 0) ∧ noCard (field (leBytes 4 0) 0 4) ∧
    (asked day 14 2 (leBytes 4 1 ++ leBytes 3 100000)).LaneAsked 14 RequestKind.hold.code (leBytes 4 1 ++ leBytes 3 100000) ∧
      99999 < field (leBytes 4 1 ++ leBytes 3 100000) 4 3 := by decide

theorem witness_CommonChecksRefuse_station :
    (asked day 2 2 (RequestKind.hold.fields 1 99999)).LaneAsked 2 RequestKind.hold.code (RequestKind.hold.fields 1 99999) ∧
      1 ≤ 1 ∧ 99999 ≤ 99999 ∧ RequestKind.hold ≠ .bal ∧ ((asked day 2 2 []).station 2).kind ≠ .till := by decide

theorem witness_CommonChecksRefuse_later :
    (asked open' 1 1 (RequestKind.bal.fields 1 0)).engine.state = .unset ∧
    ((asked day 1 1 (RequestKind.bal.fields 99999999 0)).LaneAsked 1 RequestKind.bal.code (RequestKind.bal.fields 99999999 0)) ∧
    ((asked { day with engine := { day.engine with state := .unset } } 2 6 (RequestKind.cash.fields 1 16777215)).LaneAsked 2
      RequestKind.cash.code (RequestKind.cash.fields 1 16777215)) ∧
    ((asked frozen 1 4 (RequestKind.sale.fields 1 5)).LaneAsked 1 RequestKind.sale.code (RequestKind.sale.fields 1 5) ∧
      frozen.engine.state = .frozen) ∧
    ((asked day 1 5 (RequestKind.drop.fields 4 0)).LaneAsked 1 RequestKind.drop.code (RequestKind.drop.fields 4 0) ∧
      (asked day 1 5 []).purse? 4 = none) ∧
    ((asked day 1 5 (RequestKind.drop.fields 2 0)).LaneAsked 1 RequestKind.drop.code (RequestKind.drop.fields 2 0) ∧
      ((asked day 1 5 []).purse? 2).map Purse.state = some .blocked) := by decide

theorem witness_BalResult :
    (asked frozen 2 1 (leBytes 4 99999999)).LaneAsked 2 1 (leBytes 4 99999999) ∧ frozen.engine.state ≠ .unset ∧
      (asked frozen 2 1 []).purse? 99999999 = some { plain 99999999 20000 with holdStation := some 14 } := by decide

theorem witness_HoldResult_open :
    (asked day 14 2 (RequestKind.hold.fields 1 99999)).Admitted 14 .hold 1 99999 (plain 1 5000) ∧ 99999 ≤ 99999 ∧
      ((asked day 14 2 []).station 14).kind = .till ∧ (plain 1 5000).holdStation = none := by decide

theorem witness_HoldResult_refresh :
    (asked day 14 2 (RequestKind.hold.fields 99999999 0)).Admitted 14 .hold 99999999 0
      { plain 99999999 20000 with holdStation := some 14 } ∧
    (asked day 1 2 (RequestKind.hold.fields 99999999 0)).Admitted 1 .hold 99999999 0
      { plain 99999999 20000 with holdStation := some 14 } ∧ ((asked day 1 2 []).station 1).kind = .till := by decide

theorem witness_SettleAndSaleResult :
    99999 ≤ 99999 ∧ ((asked day 14 3 []).station 14).kind = .till ∧ day.PursesSound ∧
    (asked day 14 3 (RequestKind.settle.fields 99999999 99999)).Admitted 14 .settle 99999999 99999
      { plain 99999999 20000 with holdStation := some 14 } ∧
    (∃ h ∈ day.holds.holds, h.card = 99999999 ∧ h.station = 14) ∧
    (asked day 1 4 (RequestKind.sale.fields 99999999 0)).Admitted 1 .sale 99999999 0
      { plain 99999999 20000 with holdStation := some 14 } := by decide

theorem witness_DropAndMissingHold :
    frozen.Powered ∧ (frozen.station 14).kind = .till ∧ 1 ≤ 1 ∧ 99999999 ≤ 99999999 ∧
    frozen.purse? 99999999 = some { plain 99999999 20000 with holdStation := some 14 } ∧
    (asked frozen 14 5 (leBytes 4 99999999)).LaneAsked 14 5 (leBytes 4 99999999) ∧ frozen.engine.state ≠ .unset ∧
    frozen.hold? 99999999 14 = some { card := 99999999, station := 14, granted := 2000, remaining := 900 } ∧
    (asked day 1 3 (leBytes 4 1 ++ leBytes 3 99999)).LaneAsked 1 3 (leBytes 4 1 ++ leBytes 3 99999) ∧
    day.engine.state = .running ∧ (∀ h ∈ day.holds.holds, ¬ (h.card = 1 ∧ h.station = 1)) ∧
    day.purse? 1 = some (plain 1 5000) ∧ day.lastExpired 1 = some 1 := by decide

theorem witness_CashResult :
    (asked day 2 6 (RequestKind.cash.fields 1 0)).Admitted 2 .cash 1 0 (plain 1 5000) ∧
    (asked day 2 6 (RequestKind.cash.fields 1 16777215)).Admitted 2 .cash 1 16777215 (plain 1 5000) ∧
      16777215 < 16777216 ∧ ((asked day 2 6 []).station 2).kind = .kiosk := by decide

theorem witness_RepeatUnknownDropped :
    (asked day 2 7 [9]).LaneAsked 2 7 [9] ∧ (asked day 14 8 []).LaneAsked 14 8 [] ∧ 7 < (8 : Byte).toNat ∧
    (asked day 1 0 []).LaneAsked 1 0 [] ∧ (0 : Byte).toNat = 0 ∧
    (laneForm (.bal 3 []) = some (3, 1, []) ∧ (asked day 3 1 []).Powered ∧ ((asked day 3 1 []).station 3).kind = .none ∧
      (asked day 3 1 []).port.receiver = .turnaround .awaited) := by decide

theorem witness_TickAdvancesClock :
    dayEnd.time.second ≤ 59 ∧ dayEnd.time.minute ≤ 1439 ∧ dayEnd.time.day ≤ 65535 ∧ dayEnd.RolloverNext ∧
    (let s : State := { dayEnd with supply := { dayEnd.supply with vdd := false } };
      ¬ s.Powered ∧ s.time.second ≤ 59) := by decide

theorem witness_TickTakenInOrder :
    ∃ t u, day.Powered ∧ tickCommand .holdUnit = some .holdExpiry ∧ ¬ day.RolloverNext ∧
      exec (.secondsTick [.journal]) day = .next t ∧ dayEnd.Powered ∧ TickTaker.rollover ∈ [TickTaker.rollover] ∧
      exec (.secondsTick [.rollover]) dayEnd = .next u ∧ TickTaker.rollover ∉ [TickTaker.holdUnit] :=
  ⟨_, _, by decide, by decide, by decide, rfl, by decide, by decide, rfl, by decide⟩

theorem witness_HoldTickResult :
    (due day).Powered ∧ (due day).PursesSound ∧ (due day).HoldsSound ∧ (due day).ticks.hold = true ∧
      (∃ h ∈ (due day).holds.holds, h.remaining ≤ 1) ∧ day.ticks.hold = false := by decide

theorem witness_FreezeLimitAndOverdue :
    (due frozen).Powered ∧ (due frozen).ticks.engine = true ∧ (due frozen).engine.timer = 1 ∧ (due day).Powered ∧
    (due day).ticks.journal = true ∧
    (let s : State := due { day with journal := { day.journal with highWater := 3, timer := 1 } };
      s.Powered ∧ s.ticks.journal = true ∧ s.journal.highWater ≤ s.journal.records.length) ∧
    day.ticks.engine = false ∧ day.ticks.journal = false := by decide

theorem witness_RolloverResult :
    dayEnd.Powered ∧ dayEnd.time.second ≤ 59 ∧ dayEnd.time.day ≤ 65535 ∧ dayEnd.RolloverNext ∧
      (TickTaker.rollover ∉ ([] : List TickTaker)) ∧ (TickTaker.rollover ∉ [TickTaker.holdUnit, .engineControl, .journal]) ∧
    (due day).Powered ∧ (due day).time.second ≤ 59 ∧ (due day).time.day ≤ 65535 ∧ ¬ (due day).RolloverNext := by decide

/-- The same day with these supplies and this RESETn. -/
def supplied' (vdd resetLow retentionValid : Bool) : State :=
  { day with supply := { vdd := vdd, resetLow := resetLow, retentionValid := retentionValid } }

theorem witness_WarmStarts :
    ((supplied' true true true).supply.vdd = true ∧ (supplied' true true true).supply.resetLow = true ∧ 2000 ≤ 2000 ∧
      1999 < 2000) ∧
    ((supplied' false true true).supply.vdd = false ∧ (supplied' false true true).supply.resetLow = true ∧
      (supplied' false true true).supply.retentionValid = true) ∧
    ((supplied' false false true).supply.vdd = false ∧ (supplied' false false true).supply.retentionValid = true) ∧
    (let s : State := { answering with office := { answering.office with restartPending := true } };
      s.Powered ∧ s.office.restartPending = true ∧
        s.office.transmit = .reply { status := .ok, flags := LinkFlags.clear, body := [1] }) ∧
    (let s : State := { day with office := { day.office with transmit := .answeringBreak, restartPending := true } };
      s.Powered ∧ s.office.restartPending = true ∧ s.office.transmit = .answeringBreak) := by decide

theorem witness_SupplyEventsAndColdStart :
    day.supply.vdd = true ∧ day.supply.resetLow = false ∧
    ((supplied' false false false).supply.vdd = false ∧ (supplied' false false false).supply.retentionValid = false) ∧
    ((supplied' false true false).supply.vdd = false ∧ (supplied' false true false).supply.retentionValid = false) ∧
    (¬ (supplied' true true true).Powered ∧ ¬ (supplied' false false true).Powered ∧
      (∀ order, Instr.go [] ≠ .secondsTick order) ∧ (∀ lowNanoseconds, Instr.go [] ≠ .resetRelease lowNanoseconds) ∧
      Instr.go [] ≠ .resetAssert ∧ Instr.go [] ≠ .powerLoss ∧ Instr.go [] ≠ .retentionLoss ∧
        Instr.go [] ≠ .powerReturn) :=
  ⟨by decide, by decide, by decide, by decide, by decide, by decide, by simp, by simp, by decide, by decide, by decide,
    by decide⟩

/-- The same day with a command at the front of the queue. -/
def queued (s : State) (c : Instr) : State := { s with pending := [c] }

theorem witness_PursesInvariant :
    ∃ t, (queued day (.credit (leBytes 4 1 ++ leBytes 3 5))).PursesSound ∧
      step (queued day (.credit (leBytes 4 1 ++ leBytes 3 5))) = .next t :=
  ⟨_, by decide, rfl⟩

theorem witness_HoldsAgreeWithPurses :
    ∃ t, (queued (due day) .holdExpiry).PursesSound ∧ (queued (due day) .holdExpiry).HoldsSound ∧
      step (queued (due day) .holdExpiry) = .next t :=
  ⟨_, by decide, by decide, rfl⟩

theorem witness_JournalInvariant :
    ∃ t, (queued day (.jnlConfirm (leBytes 4 4294967295))).JournalSound ∧
      step (queued day (.jnlConfirm (leBytes 4 4294967295))) = .next t :=
  ⟨_, by decide, rfl⟩

theorem witness_ClockEngineInvariant :
    ∃ t, (queued day (.freeze [0])).ClockEngineSound ∧ step (queued day (.freeze [0])) = .next t :=
  ⟨_, day_clock_sound, rfl⟩

theorem witness_AttentionInvariant :
    ∃ t, (queued day (.attnTake [])).JournalSound ∧ (queued day (.attnTake [])).AttentionSound ∧
      step (queued day (.attnTake [])) = .next t :=
  ⟨_, by decide, by decide, rfl⟩

theorem witness_BatchInvariant :
    ∃ t, (queued batch (.batchClose [])).BatchSound ∧ step (queued batch (.batchClose [])) = .next t :=
  ⟨_, by decide, rfl⟩

theorem witness_PortsInvariant :
    ∃ t, (queued (asked day 1 1 (leBytes 4 1)) (.bal 1 (leBytes 4 1))).PortsSound ∧
      step (queued (asked day 1 1 (leBytes 4 1)) (.bal 1 (leBytes 4 1))) = .next t :=
  ⟨_, by decide, rfl⟩

theorem witness_EveryChangeIsRecorded :
    ∃ t, day.PursesSound ∧ exec (.credit (leBytes 4 1 ++ leBytes 3 5)) day = .next t ∧
      ((Instr.credit (leBytes 4 1 ++ leBytes 3 5)) = .powerReturn → day.supply.retentionValid = true) :=
  ⟨_, by decide, rfl, by decide⟩

theorem witness_LaneRequestIsolation :
    laneForm (.sale 14 (leBytes 7 0)) = some (14, 4, leBytes 7 0) ∧ 1 ≤ 1 ∧ 1 ≤ 14 ∧ 1 ≠ 14 ∧
      frozen.engine.state ≠ .running := by decide

theorem witness_LinesCarryRepliesAndSignals :
    ((laneAt (.replying (held 14))).Powered ∧ (laneAt (.replying (held 14))).port.receiver = .replying (held 14)) ∧
    (State.reset.Powered ∧ State.reset.port.receiver = .mark ∧ State.reset.office.transmit = .startBreak false) ∧
    ((laneAt (.broken true)).Powered ∧ (laneAt (.broken true)).port.receiver = .broken true) ∧
    ((laneAt (.broken false)).Powered ∧ (laneAt (.broken false)).port.receiver = .broken false) ∧
    ((laneAt .receiving).Powered ∧ (laneAt .receiving).port.receiver = .receiving) ∧
    ((asked day 1 1 []).Powered ∧ (asked day 1 1 []).port.receiver = .turnaround .awaited) ∧
    (answering.Powered ∧ answering.office.transmit = .reply { status := .ok, flags := LinkFlags.clear, body := [1] }) ∧
    (let s : State := { day with office := { day.office with transmit := .answeringBreak } };
      s.Powered ∧ s.office.transmit = .answeringBreak) ∧
    (day.Powered ∧ day.port.receiver = .idle ∧ day.office.transmit = .idle) ∧ ¬ (supplied' true true true).Powered := by
  decide

/-! ## Examples of the manual -/

/-- The body of the reply an office command was answered with. -/
def replyBody (o : Host.Outcome State Fault Refusal) : Option (OfficeStatus × List Byte) :=
  match o with
  | .next t =>
    match t.office.transmit with
    | .reply r => some (r.status, r.body)
    | .answeringBreak => none
    | .idle => none
    | .startBreak _ => none
  | .fault _ => none
  | .refused _ => none

/-- The status and the body of the reply a lane request was answered with. -/
def laneBody (o : Host.Outcome State Fault Refusal) : Option (LaneStatus × List Byte) :=
  match o with
  | .next t => t.lane.outcome.map (fun r => (r.status, r.body))
  | .fault _ => none
  | .refused _ => none

/-- The rate a state's link has after a command. -/
def bitTimeAfter (o : Host.Outcome State Fault Refusal) : Option Nat :=
  match o with
  | .next t => t.office.bitTime
  | .fault _ => none
  | .refused _ => none

/-- Chapter 3, the night meal: class 2, day 121 at clock 01:15, window 3, a purse of 5,000 with a hold of 3,000 at station 6, the
last day's stamps, next sequence number 5,201. -/
def night : State :=
  let card := 40117208
  let s : State :=
    { open' with
      purses := { open'.purses with
        purses := [{ plain card 5000 with cls := 2, holdStation := some 6, daySpend := 900, daySpendStamp := some 120,
                                          windowUsed := 70, occurrence := some (120, 3) }]
        classes := open'.purses.classes.set 2
          { rate := 350, cap := 1500, floor := -1000, dayLimit := 12000, holdCeiling := 3000 }
        floatTotal := 5000 }
      time := { open'.time with
        minute := 75, day := 121, valid := true
        windows := open'.time.windows.set 3 { used := true, start := 1230, stop := 1320, subsidised := true } }
      holds := { open'.holds with
        stations := (open'.holds.stations.set 5 { kind := .till, quota := 4, lifetime := 180 }).set 8
          { kind := .till, quota := 4, lifetime := 180 }
        holds := [{ card := card, station := 6, granted := 3000, remaining := 100 }] }
      journal := { open'.journal with nextSeq := 5201, cursor := 5201 }
      engine := { open'.engine with state := .running } }
  s

/-- Chapter 3, the night meal: OK with gross 4,735, subsidy 1,500, charged 3,235, balance 1,765 and sequence 5,201. -/
theorem test_settle_night_meal :
    laneBody (exec (.settle 6 (leBytes 4 40117208 ++ leBytes 3 4735))
      (asked night 6 3 (leBytes 4 40117208 ++ leBytes 3 4735))) =
    some (.ok, leBytes 3 4735 ++ leBytes 3 1500 ++ leBytes 3 3235 ++ leBytes 4 1765 ++ leBytes 4 5201) := by decide

/-- Chapter 3: at a balance of 2,000 the same SETTLE would leave -1,235, below the floor, and is refused INSUFFICIENT. -/
theorem test_settle_insufficient :
    let poor : State := { night with purses := { night.purses with
      purses := night.purses.purses.map (fun p => { p with balance := 2000 }) } }
    laneBody (exec (.settle 6 (leBytes 4 40117208 ++ leBytes 3 4735))
      (asked poor 6 3 (leBytes 4 40117208 ++ leBytes 3 4735))) = some (.insufficient, []) := by decide

/-- Chapter 3, a SALE at station 9 against the hold at station 6: gross 900 has subsidy 315, charged 585, at a balance of
4,000. -/
theorem test_sale_against_hold :
    let s : State := { night with purses := { night.purses with
      purses := night.purses.purses.map (fun p => { p with balance := 4000, daySpendStamp := none, occurrence := none }) } }
    laneBody (exec (.sale 9 (leBytes 4 40117208 ++ leBytes 3 900)) (asked s 9 4 (leBytes 4 40117208 ++ leBytes 3 900))) =
      some (.ok, leBytes 3 900 ++ leBytes 3 315 ++ leBytes 3 585 ++ leBytes 4 3415 ++ leBytes 4 5201) := by decide

/-- Chapter 3: gross 3,200 would leave 1,920, below the floor and the 3,000 of station 6, and is refused INSUFFICIENT. -/
theorem test_sale_insufficient :
    let s : State := { night with purses := { night.purses with
      purses := night.purses.purses.map (fun p => { p with balance := 4000, daySpendStamp := none, occurrence := none }) } }
    laneBody (exec (.sale 9 (leBytes 4 40117208 ++ leBytes 3 3200)) (asked s 9 4 (leBytes 4 40117208 ++ leBytes 3 3200))) =
      some (.insufficient, []) := by decide

/-- Chapter 10: a break of 4,167 periods on an unrated link gives T = 417. -/
theorem test_break_rates :
    bitTimeAfter (exec (.breakRisingEdge 4167) { day with office := { day.office with bitTime := none } }) = some 417 := by
  decide

/-- Chapter 10: a break of 18,400 periods gives 1,840, which is refused, and the link stays at T = 417. -/
theorem test_break_refused :
    bitTimeAfter (exec (.breakRisingEdge 18400) { day with office := { day.office with bitTime := some 417 } }) =
      some 417 := by decide

/-- R168, R169: a break of 685 periods whose rising edge comes while the start break is sent rates the link too, at T = 69. -/
theorem test_break_in_start_break :
    bitTimeAfter (exec (.breakRisingEdge 685) State.reset) = some 69 := by decide

/-- What the CP240 drives on LBUS and LBDIR after a command. -/
def laneLinesAfter (o : Host.Outcome State Fault Refusal) : Option (List Bool × List Bool) :=
  match o with
  | .next t => some (t.lbusBits, t.lbdirBits)
  | .fault _ => none
  | .refused _ => none

/-- R159, R162: a parity refusal pulls LBUS low for one bit time, with LBDIR high. -/
theorem test_refusal_signal :
    laneLinesAfter (exec .parityRefusal (laneAt .receiving)) = some ([false], [true]) := by decide

/-- Chapter 8: a FREEZE of 12 minutes during a rollover freeze answers ROLLOVER and 720 seconds. -/
theorem test_freeze_keeps_reason :
    replyBody (exec (.freeze [12]) { frozen with engine := { frozen.engine with reason := some .rollover } }) =
      some (.ok, [2, 208, 2]) := by decide

/-- R181: GO has kind character 17, and an empty frame of it ends with check character 239. -/
theorem test_frame_is_go :
    replyBody (exec (.officeFrameEnd 17 [] 239) { open' with time := { open'.time with valid := true } }) = some (.ok, []) := by
  decide

end Sys2Proof.Tests
end

/-! # The purse store commands that write one record: ENROL, RETIRE, UNBLOCK, RECLASS, ADJUST

An office command is a row of checks, each of which refuses it or lets the next one see the same state, and then an effect.
`takeCommand_check` and `takeCommand_effect` say this once, so that each command's proof names its conditions and its effect. -/

section
namespace Sys2Proof.Machine

/-! ## The work of an office command on an open port -/

/-- A command whose work makes a check first: refused with the check's status when the condition `p` holds, which the check
decides, and otherwise taken with the rest of the work. -/
theorem takeCommand_check {s t : State} (h : s.OfficeOpen) {c : State → Prop} [DecidablePred c] {p : Prop} [Decidable p]
    {status : OfficeStatus} {work : State → State × OfficeAnswer} (hc : c s.officeSeek ↔ p)
    (hrest : ¬ p → s.takeCommand work = t) :
    s.takeCommand (fun u => if c u then (u, .refuse status) else work u) = if p then s.replied status [] else t := by
  split
  next hp => exact takeCommand_refuse h (if_pos (hc.2 hp))
  next hp => rw [← hrest hp, takeCommand_open h, takeCommand_open h, if_neg (mt hc.1 hp)]

/-- An accepted command: the effect, which does not read the office port, and the reply. -/
theorem takeCommand_effect {s t : State} (h : s.OfficeOpen) {work : State → State × OfficeAnswer} {body : List Byte}
    (hw : work s.officeSeek = (t.officeSeek, .ok body)) : s.takeCommand work = t.replied .ok body := by
  rw [takeCommand_open h, hw]
  rfl

theorem takeCommand_withPurse_none {s : State} (h : s.OfficeOpen) {card : Nat} (hp : s.purse? card = none)
    (work : Purse → State → State × OfficeAnswer) :
    s.takeCommand (withPurse card work) = s.replied .unknownCard [] :=
  takeCommand_refuse h (withPurse_none (s := s.officeSeek) hp work)

theorem takeCommand_withPurse_some {s : State} (h : s.OfficeOpen) {card : Nat} {p : Purse} (hp : s.purse? card = some p)
    (work : Purse → State → State × OfficeAnswer) :
    s.takeCommand (withPurse card work) = s.takeCommand (work p) := by
  rw [takeCommand_open h, takeCommand_open h, withPurse_some (s := s.officeSeek) hp]

/-- A command that only writes fields of the card's record and answers with an empty body. -/
theorem takeCommand_modifyPurse {s : State} (h : s.OfficeOpen) (card : Nat) (f : Purse → Purse) :
    s.takeCommand (withPurse card fun p u => (u.modifyPurse p.card f, .ok [])) =
      if s.purse? card = none then s.replied .unknownCard [] else (s.modifyPurse card f).replied .ok [] := by
  cases hp : s.purse? card with
  | none => exact takeCommand_withPurse_none h hp _
  | some p =>
    obtain rfl := purse?_card hp
    rw [takeCommand_withPurse_some h hp, if_neg (by simp)]
    exact takeCommand_effect h rfl

/-! ## The conditions and effects of the commands -/

theorem purse?_none_iff {s : State} {card : Nat} : s.purse? card = none ↔ ∀ q ∈ s.purses.purses, q.card ≠ card := by
  simp [State.purse?]

theorem balanceInRange_false (b : Int) : balanceInRange b = false ↔ b < -20000 ∨ 999999 < b := by
  rw [balanceInRange, Bool.and_eq_false_iff, decide_eq_false_iff_not, decide_eq_false_iff_not, not_le, not_le]

/-- A new card's record goes between those of the lower and those of the higher cards (R1, R15). -/
theorem addPurse_eq {s : State} (hs : s.PursesSound) {p : Purse} (hn : s.purse? p.card = none) :
    s.addPurse p = { s with purses := { s.purses with
      purses := s.purses.purses.filter (fun q : Purse => decide (q.card < p.card)) ++
        p :: s.purses.purses.filter (fun q : Purse => decide (p.card < q.card)) } } := by
  rw [State.addPurse, insertPurse_eq p _ hs.1 (purse?_none_iff.1 hn)]
  rfl

theorem dropPurse_eq (s : State) (card : Nat) :
    s.dropPurse card = { s with purses := { s.purses with
      purses := s.purses.purses.filter (fun q : Purse => decide (q.card ≠ card)) } } := by
  have hkeep : (fun q : Purse => !(q.card == card)) = fun q => decide (q.card ≠ card) := by
    funext q
    rw [decide_not]
    rfl
  rw [State.dropPurse, hkeep]
  rfl

/-! ## The statements -/

/-- Settles O3 (R15): the four checks in order; under the purse invariant a table that is not below 4,096 records holds just as
many, and the new record's place is the one in card number order. -/
theorem enrolResult : Obligations.EnrolResult := by
  intro s card cls opening hopen hsound h1 h2 ho
  have hrange : Config.maxBalance < (opening : Int) ↔ 999999 < opening := Nat.cast_lt (m := 999999)
  have hexists : (s.officeSeek.purse? card).isSome = true ↔ s.purse? card ≠ none := Option.isSome_iff_ne_none
  have hfull : Config.maxPurses ≤ s.purses.purses.length ↔ s.purses.purses.length = 4096 := hsound.2.1.ge_iff_eq
  change Host.Outcome.next (s.takeCommand (enrolWork _)) = _
  rw [enrolWork, enrolBody_spelled h1 h2 ho, withBody_some]
  refine congrArg _ (takeCommand_check hopen hrange fun _ => takeCommand_check hopen hexists fun hnew =>
    takeCommand_check hopen hfull fun _ => takeCommand_check hopen (generalRoom_false _) fun _ => takeCommand_effect hopen ?_)
  rw [addPurse_eq (s := s.officeSeek) (p := Purse.enrolled card cls opening) hsound (not_not.1 hnew), appendRecord_eq]
  rfl

/-- Settles O4 (R16): the checks in order, and the record dropped with its balance taken off the float. -/
theorem retireResult : Obligations.RetireResult := by
  intro s card hopen h1 h2
  change Host.Outcome.next (s.takeCommand (retireWork _)) = _
  rw [retireWork, cardBody_spelled h1 h2, withBody_some]
  cases hp : s.purse? card with
  | none => rw [takeCommand_withPurse_none hopen hp]
  | some p =>
    rw [takeCommand_withPurse_some hopen hp]
    refine congrArg _ (takeCommand_check hopen Option.isSome_iff_ne_none fun _ =>
      takeCommand_check hopen (generalRoom_false _) fun _ => takeCommand_effect hopen ?_)
    rw [dropPurse_eq, appendRecord_eq]
    rfl

/-- Settles O6 (R18, R19): both commands write one field of the card's record and nothing else. -/
theorem unblockReclassResult : Obligations.UnblockReclassResult := by
  intro s card cls hopen h1 h2
  constructor
  · change Host.Outcome.next (s.takeCommand (unblockWork _)) = _
    rw [unblockWork, cardBody_spelled h1 h2, withBody_some]
    exact congrArg _ (takeCommand_modifyPurse hopen card fun q => { q with state := .active })
  · change Host.Outcome.next (s.takeCommand (reclassWork _)) = _
    rw [reclassWork, reclassBody_spelled h1 h2, withBody_some]
    exact congrArg _ (takeCommand_modifyPurse hopen card fun q => { q with cls := cls })

/-- Settles O7 (R20): the range of the amount is checked before the card is looked up, the range of the balance and the room
after it. -/
theorem adjustResult : Obligations.AdjustResult := by
  intro s card amount hopen h1 h2 hl hu
  change Host.Outcome.next (s.takeCommand (adjustWork _)) = _
  rw [adjustWork, adjustBody_spelled h1 h2 hl (Int.lt_add_one_of_le hu), withBody_some]
  refine congrArg _ (takeCommand_check hopen Iff.rfl fun _ => ?_)
  cases hp : s.purse? card with
  | none => exact takeCommand_withPurse_none hopen hp _
  | some p =>
    refine (takeCommand_withPurse_some hopen hp _).trans <|
      takeCommand_check hopen (balanceInRange_false _) fun _ =>
        takeCommand_check hopen (generalRoom_false _) fun _ => takeCommand_effect hopen ?_
    rw [appendRecord_eq]
    rfl

end Sys2Proof.Machine
end

/-! # The credit unit's single top-up: CREDIT (R110, R111) -/

section
namespace Sys2Proof.Machine

/-- Settles O16 (R110, R111): the engine state and the range of the amount are checked before the card is looked up, the balance
after the credit and the room after it; the credit itself is `credited_eq`. -/
theorem creditResult : Obligations.CreditResult := by
  intro s card amount hopen h1 h2 ha
  have hrange : amount = 0 ∨ Config.maxCredit < amount ↔ amount < 1 ∨ 200000 < amount :=
    or_congr_left Nat.lt_one_iff.symm
  change Host.Outcome.next (s.takeCommand (creditWork _)) = _
  rw [creditWork, creditBody_spelled h1 h2 ha, withBody_some]
  refine congrArg _ (takeCommand_check hopen Iff.rfl fun _ => takeCommand_check hopen hrange fun _ => ?_)
  cases hp : s.purse? card with
  | none => exact takeCommand_withPurse_none hopen hp _
  | some p =>
    obtain rfl := purse?_card hp
    refine (takeCommand_withPurse_some hopen hp _).trans <|
      takeCommand_check hopen Iff.rfl fun _ =>
        takeCommand_check hopen (generalRoom_false _) fun _ => takeCommand_effect hopen ?_
    rw [credited_eq]
    rfl

end Sys2Proof.Machine
end

/-! # What an event can do

Every command is a chain of a few kinds of change of the blocks (`Change`), framed by what the office port and the supplies do
(`Event`). `exec_event` says this once for all 74 commands; each invariant is then proved change by change. -/

section
namespace Sys2Proof.Machine

/-! ## Sound blocks -/

/-- The clauses of `State.ClockEngineSound` about the time unit alone. -/
def TimeUnit.Sound (t : TimeUnit) : Prop :=
  t.second ≤ 59 ∧ t.minute ≤ 1439 ∧ t.day ≤ 65535 ∧ t.rolloverMinute ≤ 1439 ∧ (t.valid = false → t.day = 0) ∧
    windowTableGood t.windows = true ∧ ∀ w ∈ t.windows.toList, w.used = false → w = Window.unused

/-- The clauses of `State.ClockEngineSound` about engine control alone. -/
def EngineControl.Sound (e : EngineControl) : Prop :=
  (0 < e.timer ↔ e.state = .frozen) ∧ (e.reason ≠ none ↔ e.state = .frozen) ∧ e.timer ≤ 900 ∧ 1 ≤ e.limit ∧ e.limit ≤ 15 ∧
    e.changeCount ≤ 255

/-- The clauses of `State.AttentionSound` about the attention unit alone. -/
def AttentionUnit.Coherent (a : AttentionUnit) : Prop :=
  (∀ c ∈ causesHighestFirst, a.condition.get c = true → a.pending.get c = true) ∧
    (∀ c ∈ causesHighestFirst, a.acknowledged.get c = true → a.condition.get c = true) ∧
    a.enabled.journalFull = false ∧ a.enabled.overdue = false

/-- The six counters are in range (R163). -/
def LaneCounters.Sound (c : LaneCounters) : Prop :=
  c.goodFrames ≤ 65535 ∧ c.parityRefusals ≤ 65535 ∧ c.badChecks ≤ 65535 ∧ c.timeouts ≤ 65535 ∧ c.unknownStations ≤ 65535 ∧
    c.replyLosses ≤ 65535

/-- The clauses of `State.PortsSound` about the lane bus port. -/
def LanePort.Sound (p : LanePort) : Prop :=
  laneRateGood p.rate ∧ (∀ r, p.pendingRate = some r → laneRateGood r) ∧ (p.receiver = .idle → p.pendingRate = none) ∧
    (p.receiver = .turnaround .awaited → p.handed ≠ []) ∧
    (∀ f ∈ p.handed, 1 ≤ f.station ∧ f.station ≤ 14 ∧ f.body.length ≤ 12) ∧ p.counters.Sound

/-- The clauses of `State.PortsSound` about the office link port. -/
def OfficePort.Sound (o : OfficePort) : Prop :=
  (∀ t, o.bitTime = some t → 69 ≤ t ∧ t ≤ 1667) ∧ (o.bitTime = none → o.receiver = .seeking ∧ o.replyPeriod = false) ∧
    (o.transmit = .startBreak false → o.bitTime = none) ∧ (o.restartPending = true → o.replyPeriod = true) ∧
    ∀ answer, o.transmit = .startBreak answer → o.restartPending = false

/-- A watch entry is in range, and unused when it names no card (R99). -/
def WatchEntry.Sound (w : WatchEntry) : Prop :=
  w.card ≤ 99999999 ∧ w.hits ≤ 255 ∧ w.lastStation ≤ 14 ∧ (w.card = 0 → w = WatchEntry.unused)

/-- The clauses of `State.PortsSound` about the lane request unit. -/
def LaneUnit.Sound (l : LaneUnit) : Prop :=
  (∀ w ∈ l.watch.toList, w.Sound) ∧ l.blockedSeen.count ≤ 255 ∧ l.blockedSeen.station ≤ 14

theorem portsSound_iff (s : State) : s.PortsSound ↔ s.port.Sound ∧ s.office.Sound ∧ s.lane.Sound := by
  simp only [State.PortsSound, LanePort.Sound, LaneCounters.Sound, OfficePort.Sound, LaneUnit.Sound, WatchEntry.Sound, and_assoc]

theorem clockEngineSound_iff (s : State) :
    s.ClockEngineSound ↔ s.time.Sound ∧ s.purses.firstDay ≤ 65535 ∧
      (∀ p ∈ s.purses.purses, (∀ d, p.daySpendStamp = some d → d ≤ 65535) ∧
        (∀ o, p.occurrence = some o → o.1 ≤ 65535 ∧ o.2 ≤ 5)) ∧
      (s.engine.state ≠ .unset → s.time.valid = true) ∧ s.engine.Sound := by
  simp only [State.ClockEngineSound, TimeUnit.Sound, EngineControl.Sound, and_assoc]

/-! ## The changes of the blocks -/

/-- A change of the money in the purse store, of its class table or of its day totals, with what the command has checked before
it. -/
inductive Money : State → State → Prop
  | enrol (s : State) (card : Nat) (cls : Fin 8) (opening : Nat) :
      1 ≤ card → card ≤ 99999999 → opening ≤ 999999 → s.purse? card = none → s.purses.purses.length < 4096 →
      s.journal.records.length < 1920 →
      Money s ((((s.addPurse (Purse.enrolled card cls opening)).addFloat opening).addCreditTotal opening).appendRecord 0
        (.enrol card opening opening))
  | retire (s : State) (p : Purse) :
      s.purse? p.card = some p → p.holdStation = none → s.journal.records.length < 1920 →
      Money s (((s.dropPurse p.card).addFloat (-p.balance)).appendRecord 0 (.retire p.card (-p.balance) 0))
  | adjust (s : State) (p : Purse) (amount : Int) :
      s.purse? p.card = some p → -20000 ≤ p.balance + amount → p.balance + amount ≤ 999999 →
      s.journal.records.length < 1920 →
      Money s (((s.modifyPurse p.card (fun q => { q with balance := q.balance + amount })).addFloat amount).appendRecord 0
        (.adjust p.card amount (p.balance + amount)))
  | credit (s : State) (p : Purse) (amount source : Nat) (body : Int → RecordBody) :
      s.purse? p.card = some p → p.balance + amount ≤ 999999 → s.journal.records.length < 1920 →
      (∀ b, (body b).card = p.card ∧ (body b).amount = amount ∧ (body b).after = b) →
      Money s (s.applyCredit p amount source body)
  | charge (s : State) (p : Purse) (gross kept station : Nat) :
      s.purse? p.card = some p → s.chargeRefusal p (s.chargeOf p gross) kept = none →
      Money s (s.applyCharge p (s.chargeOf p gross) station)
  | dayMark (s : State) (lastDay : Nat) : Money s (s.writeDayMark lastDay)
  | classSet (s : State) (cls : Fin 8) (rec : ClassRecord) :
      rec.inRange = true → Money s (s.setPurses { s.purses with classes := s.purses.classes.set cls rec })

/-- One change of the blocks that a command can make, with what the command has checked before it. A write of one block whose
values no other block's soundness rests on is named by the soundness it keeps. -/
inductive Change : State → State → Prop
  | money {s t : State} : Money s t → Change s t
  | block (s : State) (p : Purse) : s.purse? p.card = some p → Change s (s.blockPurse p).1
  | unblock (s : State) (card : Nat) : Change s (s.setPurseState card .active)
  | reclass (s : State) (card : Nat) (cls : Fin 8) : Change s (s.modifyPurse card (fun q => { q with cls := cls }))
  | time (s : State) (t : TimeUnit) :
      (s.time.Sound → t.Sound) → (s.time.valid = true → t.valid = true) → Change s (s.setTime t)
  | station (s : State) (station : Nat) (e : StationEntry) :
      e.inRange = true → e.kind = .till → Change s (s.setStation station e)
  | release (s : State) (station : Nat) (e : StationEntry) :
      1 ≤ station → station ≤ 14 → e.inRange = true → Change s ((s.setStation station e).releaseStation station)
  | openHold (s : State) (p : Purse) (station granted : Nat) :
      s.purse? p.card = some p → p.state = .active → p.holdStation = none → (s.station station).kind = .till →
      s.engine.state = .running → (s.queue station).length < (s.station station).quota → s.holds.holds.length < 64 →
      granted ≤ 99999 → Change s (s.openHold station p.card granted)
  | refreshHold (s : State) (station card granted : Nat) :
      (s.station station).kind = .till → granted ≤ 99999 → Change s (s.refreshHold station card granted)
  | removeHold (s : State) (card station : Nat) (h : Hold) :
      s.hold? card station = some h → Change s (s.removeHold card station)
  | forget (s : State) (station : Nat) : Change s (s.setLastExpired station none)
  | holdTick (s : State) : Change s s.holdTick
  | batch (s : State) (c : CreditUnit) : (s.BatchSound → (s.setCredit c).BatchSound) → Change s (s.setCredit c)
  | cursor (s : State) (n : Nat) :
      (s.JournalSound → n ∈ s.journal.series) → Change s (s.setJournal { s.journal with cursor := n })
  | settings (s : State) (mark reload : Nat) :
      256 ≤ mark → mark ≤ 1920 → 5 ≤ reload → reload ≤ 120 →
      Change s ((s.lowerJournal (s.journal.withSettings mark reload)).reportBegin .journalHigh
        (!s.journal.high && (s.journal.withSettings mark reload).high))
  | journalTick (s : State) : Change s s.journalTick
  | lane (s : State) (l : LaneUnit) : (s.lane.Sound → l.Sound) → Change s (s.setLane l)
  | port (s : State) (p : LanePort) : (s.port.Sound → p.Sound) → Change s (s.setPort p)
  | engine (s : State) (e : EngineControl) :
      (s.engine.Sound → e.Sound) → (e.state = .unset ↔ s.engine.state = .unset) ∨ e.state ≠ .unset ∧ s.time.valid = true →
      Change s (s.setEngine e)
  | attention (s : State) (a : AttentionUnit) :
      a.condition = s.attention.condition → (s.AttentionSound → a.Coherent) → Change s (s.setAttention a)
  | ticks (s : State) (t : TickDue) : Change s (s.setTicks t)

/-- Any number of changes, one after the other. -/
abbrev Changes : State → State → Prop := Relation.ReflTransGen Change

/-- What the work of an office command can do: changes, the confirmation of journal records, and the acceptance of a RESTART. -/
inductive Work : State → State → Prop
  | changes {s t : State} : Changes s t → Work s t
  | confirm (s : State) (seq k : Nat) :
      s.journal.confirmCount seq = some k → Work s (s.lowerJournal (s.journal.confirm k))
  | restart (s : State) : Work s (s.setOffice { s.office with restartPending := true })

/-- What a command can do, a cold start aside. -/
inductive Event : State → State → Prop
  | changes {s t : State} : Changes s t → Event s t
  | answered {s t : State} (a : OfficeAnswer) : s.OfficeHears → Work s.officeSeek t → Event s (t.buildReply a)
  | office (s : State) (o : OfficePort) : (s.office.Sound → o.Sound) → Event s (s.setOffice o)
  | supply (s : State) (v : Supply) (n : Nat) : Event s ((s.setSupply v).setOpenChoices n)
  | warmStart (s : State) (v : Supply) (n : Nat) (cause : StartCause) :
      Event s (((s.setSupply v).setOpenChoices n).warmStart cause)

/-! ## What the changes leave alone -/

/-- Two states that agree in the blocks no change touches: the office port, the supplies, the count of open choices and the
queue. -/
def State.SameOutside (s t : State) : Prop :=
  t.office = s.office ∧ t.supply = s.supply ∧ t.openChoices = s.openChoices ∧ t.pending = s.pending

theorem State.SameOutside.refl (s : State) : s.SameOutside s := ⟨rfl, rfl, rfl, rfl⟩

theorem State.SameOutside.trans {s t u : State} (h : s.SameOutside t) (k : t.SameOutside u) : s.SameOutside u := by
  obtain ⟨ho, hv, hn, hq⟩ := h
  obtain ⟨ho', hv', hn', hq'⟩ := k
  exact ⟨ho'.trans ho, hv'.trans hv, hn'.trans hn, hq'.trans hq⟩

/-- The blocks a change writes: the purse store, the hold unit, the journal and the attention unit together, or one other block,
kept sound. -/
inductive Footprint (s : State) : State → Prop
  | stores (p : PurseStore) (h : HoldUnit) (j : Journal) (a : AttentionUnit) :
      Footprint s { s with purses := p, holds := h, journal := j, attention := a }
  | time (t : TimeUnit) :
      (s.time.Sound → t.Sound) → (s.time.valid = true → t.valid = true) → Footprint s (s.setTime t)
  | batch (c : CreditUnit) : (s.BatchSound → (s.setCredit c).BatchSound) → Footprint s (s.setCredit c)
  | lane (l : LaneUnit) : (s.lane.Sound → l.Sound) → Footprint s (s.setLane l)
  | port (p : LanePort) : (s.port.Sound → p.Sound) → Footprint s (s.setPort p)
  | engine (e : EngineControl) :
      (s.engine.Sound → e.Sound) → (e.state = .unset ↔ s.engine.state = .unset) ∨ e.state ≠ .unset ∧ s.time.valid = true →
      Footprint s (s.setEngine e)
  | ticks (t : TickDue) : Footprint s (s.setTicks t)

theorem Footprint.refl (s : State) : Footprint s s := .stores s.purses s.holds s.journal s.attention

theorem appendRecord_footprint (s : State) (p : PurseStore) (source : Nat) (body : RecordBody) :
    Footprint s ((s.setPurses p).appendRecord source body) := by
  rw [appendRecord_eq]
  exact .stores p s.holds _ _

theorem lowerJournal_footprint (s : State) (j : Journal) : Footprint s (s.lowerJournal j) := by
  rw [lowerJournal_eq]
  exact .stores s.purses s.holds _ _

theorem expireHolds_stores (l : List Hold) (s : State) : ∃ p h, s.expireHolds l = { s with purses := p, holds := h } := by
  induction l generalizing s with
  | nil => exact ⟨s.purses, s.holds, rfl⟩
  | cons x l ih =>
    obtain ⟨p, h, he⟩ := ih (s.expireHold x)
    exact ⟨p, h, he⟩

theorem Money.footprint {s t : State} (h : Money s t) : Footprint s t := by
  cases h with
  | enrol | retire | adjust | credit | charge => exact appendRecord_footprint s _ _ _
  | dayMark d =>
    rw [writeDayMark_eq]
    unfold State.dayMarked
    split
    · exact .stores _ s.holds _ _
    · exact .refl s
  | classSet => exact .stores _ s.holds s.journal s.attention

theorem Change.footprint {s t : State} (h : Change s t) : Footprint s t := by
  cases h with
  | money h => exact h.footprint
  | block p =>
    unfold State.blockPurse
    split
    · exact .refl s
    · split
      · exact .stores _ s.holds s.journal s.attention
      · exact .stores _ _ s.journal s.attention
  | release station e =>
    rw [State.releaseStation, removeHolds_eq]
    exact .stores _ _ s.journal s.attention
  | openHold p station g =>
    unfold State.openHold
    dsimp only
    split <;> exact .stores _ _ s.journal s.attention
  | holdTick =>
    unfold State.holdTick
    split
    · obtain ⟨p, h, he⟩ := expireHolds_stores s.expiring s.countHolds
      rw [he]
      exact .stores p h s.journal s.attention
    · exact .refl s
  | settings mark reload =>
    rw [reportBegin_eq, lowerJournal_eq]
    exact .stores s.purses s.holds _ _
  | journalTick =>
    unfold State.journalTick
    split
    · rw [reportBegin_eq]; exact .stores s.purses s.holds _ _
    · exact .refl s
  | unblock | reclass => exact .stores _ s.holds s.journal s.attention
  | station | refreshHold | forget => exact .stores s.purses _ s.journal s.attention
  | removeHold => exact .stores _ _ s.journal s.attention
  | cursor => exact .stores s.purses s.holds _ s.attention
  | attention => exact .stores s.purses s.holds s.journal _
  | time t h1 h2 => exact .time t h1 h2
  | batch c h => exact .batch c h
  | lane l h => exact .lane l h
  | port p h => exact .port p h
  | engine e h1 h2 => exact .engine e h1 h2
  | ticks t => exact .ticks t

theorem Footprint.sameOutside {s t : State} (h : Footprint s t) : s.SameOutside t := by
  cases h <;> exact ⟨rfl, rfl, rfl, rfl⟩

theorem Change.sameOutside {s t : State} (h : Change s t) : s.SameOutside t := h.footprint.sameOutside

/-- No change makes a valid clock invalid. -/
theorem Change.valid {s t : State} (h : Change s t) (hv : s.time.valid = true) : t.time.valid = true := by
  cases h.footprint with
  | time t _ hk => exact hk hv
  | stores | batch | lane | port | engine | ticks => exact hv

theorem changes_sameOutside {s t : State} (h : Changes s t) : s.SameOutside t := by
  induction h with
  | refl => exact .refl s
  | tail _ hc ih => exact ih.trans hc.sameOutside

/-- A command's work leaves the office port alone, but for the restart it may make wait. -/
theorem Work.office {s t : State} (h : Work s t) :
    t.office = s.office ∨ t.office = { s.office with restartPending := true } := by
  cases h with
  | changes h => exact .inl (changes_sameOutside h).1
  | confirm seq k => exact .inl (lowerJournal_footprint s _).sameOutside.1
  | restart => exact .inr rfl

theorem Work.supply_pending {s t : State} (h : Work s t) : t.supply = s.supply ∧ t.pending = s.pending := by
  cases h with
  | changes h =>
    obtain ⟨-, hv, -, hq⟩ := changes_sameOutside h
    exact ⟨hv, hq⟩
  | confirm seq k =>
    obtain ⟨-, hv, -, hq⟩ := (lowerJournal_footprint s (s.journal.confirm k)).sameOutside
    exact ⟨hv, hq⟩
  | restart => exact ⟨rfl, rfl⟩

/-- A warm start keeps the supplies and the queue of the commands that wait. -/
theorem warmStart_supply_pending (s : State) (cause : StartCause) :
    (s.warmStart cause).supply = s.supply ∧ (s.warmStart cause).pending = s.pending := by
  rw [warmStart_eq]
  unfold State.warmStarted State.dayMarked
  dsimp only
  split_ifs <;> exact ⟨rfl, rfl⟩

theorem Event.pending {s t : State} (h : Event s t) : t.pending = s.pending := by
  cases h with
  | changes h => exact (changes_sameOutside h).2.2.2
  | answered a _ hw => exact hw.supply_pending.2
  | office | supply => rfl
  | warmStart v n cause => exact (warmStart_supply_pending _ cause).2

end Sys2Proof.Machine
end

/-! # The work of every office command

Each office command either refuses and leaves the state, or does one `Work` (`commandWork_answers`). -/

section
namespace Sys2Proof.Machine

/-! ## Bodies that spell something -/

theorem bodyOf_some {α : Type} {body : List Byte} {len : Nat} {ok : Bool} {value x : α}
    (h : bodyOf body len ok value = some x) : body.length = len ∧ ok = true ∧ value = x := by
  unfold bodyOf at h
  split at h
  next hc => exact ⟨hc.1, hc.2, Option.some.inj h⟩
  next => cases h

theorem field_lt (body : List Byte) (off len : Nat) : field body off len < 256 ^ len :=
  (leNat_lt _).trans_le (Nat.pow_le_pow_right (by omega) (List.length_take_le _ _))

theorem cardInRange_iff {card : Nat} : cardInRange card = true ↔ 1 ≤ card ∧ card ≤ 99999999 := by
  simp [cardInRange]

theorem enrolBody_some {body : List Byte} {card opening : Nat} {cls : Fin 8} (h : enrolBody body = some (card, cls, opening)) :
    1 ≤ card ∧ card ≤ 99999999 := by
  obtain ⟨c, -, hb⟩ := Option.bind_eq_some_iff.1 h
  obtain ⟨-, hok, hv⟩ := bodyOf_some hb
  cases hv
  exact cardInRange_iff.1 hok

theorem creditBody_some {body : List Byte} {card amount : Nat} (h : creditBody body = some (card, amount)) :
    1 ≤ card ∧ card ≤ 99999999 := by
  obtain ⟨-, hok, hv⟩ := bodyOf_some h
  cases hv
  exact cardInRange_iff.1 hok

theorem batchOpenBody_some {body : List Byte} {batchId count total : Nat}
    (h : batchOpenBody body = some (batchId, count, total)) : 1 ≤ batchId ∧ batchId ≤ 65535 := by
  obtain ⟨-, hok, hv⟩ := bodyOf_some h
  cases hv
  have := field_lt body 0 2
  simp only [ne_eq, decide_not, Bool.not_eq_true', decide_eq_false_iff_not] at hok
  omega

theorem clockSetBody_some {body : List Byte} {day minute second : Nat}
    (h : clockSetBody body = some (day, minute, second)) : day ≤ 65535 ∧ minute ≤ 1439 ∧ second ≤ 59 := by
  obtain ⟨-, hok, hv⟩ := bodyOf_some h
  cases hv
  have := field_lt body 0 2
  simp only [Config.minutesPerDay, Bool.and_eq_true, decide_eq_true_eq] at hok
  omega

theorem rolloverSetBody_some {body : List Byte} {minute : Nat} {flag : Bool}
    (h : rolloverSetBody body = some (minute, flag)) : minute ≤ 1439 := by
  obtain ⟨-, hok, hv⟩ := bodyOf_some h
  cases hv
  simp only [Config.minutesPerDay, Bool.and_eq_true, decide_eq_true_eq] at hok
  omega

theorem stationSetBody_some {body : List Byte} {station : Nat} {e : StationEntry}
    (h : stationSetBody body = some (station, e)) : 1 ≤ station ∧ station ≤ 14 := by
  obtain ⟨k, -, hb⟩ := Option.bind_eq_some_iff.1 h
  obtain ⟨-, hok, hv⟩ := bodyOf_some hb
  cases hv
  simpa using hok

theorem watchSetBody_some {body : List Byte} {entry card : Nat} (h : watchSetBody body = some (entry, card)) :
    card ≤ 99999999 := by
  obtain ⟨-, hok, hv⟩ := bodyOf_some h
  cases hv
  simp only [Bool.and_eq_true, decide_eq_true_eq] at hok
  exact hok.2

/-- An entry of a WINDOW_SET that is marked unused is stored as an unused one (R36, R37). -/
theorem windowOfValue_unused {v : Nat} (h : (windowOfValue v).used = false) : windowOfValue v = Window.unused := by
  unfold windowOfValue at h ⊢
  split at h
  next => cases h
  next hv => exact if_neg hv

theorem windowSetBody_some {body : List Byte} {ws : Vector Window 6} (h : windowSetBody body = some ws) :
    ∀ w ∈ ws.toList, w.used = false → w = Window.unused := by
  obtain ⟨-, -, hv⟩ := bodyOf_some h
  subst hv
  intro w hw
  obtain ⟨i, rfl⟩ : ∃ i : Fin 6, windowOfValue (field body (3 * i.val) 3) = w := by simpa using hw
  exact windowOfValue_unused

theorem attnEnableBody_some {body : List Byte} {enables : CauseFlags} (h : attnEnableBody body = some enables) :
    enables.journalFull = false ∧ enables.overdue = false := by
  obtain ⟨-, -, hv⟩ := bodyOf_some h
  subst hv
  exact ⟨rfl, rfl⟩

theorem rateOfCode_some {code rate : Nat} (h : rateOfCode code = some rate) : laneRateGood rate := by
  unfold rateOfCode at h
  unfold laneRateGood
  split at h
  · cases h; omega
  · cases h

/-! ## Answers -/

/-- The answer `r` of a command's work in state `s`: one `Work`, and a refusal leaves the state and has an empty body. -/
def Answers (s : State) (r : State × OfficeAnswer) : Prop :=
  Work s r.1 ∧ (r.2.status ≠ .ok → r.1 = s ∧ r.2.body = [])

theorem answers_work {s t : State} (h : Work s t) (body : List Byte) : Answers s (t, .ok body) :=
  ⟨h, fun hne => absurd rfl hne⟩

theorem answers_changes {s t : State} (h : Changes s t) (body : List Byte) : Answers s (t, .ok body) :=
  answers_work (.changes h) body

theorem answers_change {s t : State} (h : Change s t) (body : List Byte) : Answers s (t, .ok body) :=
  answers_changes (.single h) body

theorem answers_same (s : State) (body : List Byte) : Answers s (s, .ok body) := answers_changes .refl body

theorem answers_refuse (s : State) (status : OfficeStatus) : Answers s (s, .refuse status) :=
  ⟨.changes .refl, fun _ => ⟨rfl, rfl⟩⟩

/-- A check that refuses, and the rest of the work when it does not. -/
theorem answers_check {s : State} {c : Prop} [Decidable c] {status : OfficeStatus} {r : State × OfficeAnswer}
    (h : ¬ c → Answers s r) : Answers s (if c then (s, .refuse status) else r) := by
  split
  next => exact answers_refuse s status
  next hc => exact h hc

theorem answers_ite {s : State} {c : Prop} [Decidable c] {r r' : State × OfficeAnswer} (h : c → Answers s r)
    (h' : ¬ c → Answers s r') : Answers s (if c then r else r') := by
  split
  next hc => exact h hc
  next hc => exact h' hc

theorem answers_withBody {α : Type} {s : State} {read : Option α} {work : α → State → State × OfficeAnswer}
    (h : ∀ x, read = some x → Answers s (work x s)) : Answers s (withBody read work s) := by
  cases hr : read with
  | none => exact answers_refuse s .badRequest
  | some x => exact h x hr

theorem answers_withPurse {s : State} {card : Nat} {work : Purse → State → State × OfficeAnswer}
    (h : ∀ p, p.card = card → s.purse? p.card = some p → Answers s (work p s)) : Answers s (withPurse card work s) := by
  cases hp : s.purse? card with
  | none => rw [withPurse_none hp]; exact answers_refuse s .unknownCard
  | some p =>
    rw [withPurse_some hp]
    have hc := purse?_card hp
    exact h p hc (hc ▸ hp)

theorem room_of_not {s : State} (h : ¬ s.generalRoom = false) : s.journal.records.length < 1920 :=
  not_le.1 (mt (generalRoom_false s).2 h)

/-! ## The purse store -/

theorem enrolWork_answers (body : List Byte) (s : State) : Answers s (enrolWork body s) :=
  answers_withBody fun (card, cls, opening) hb => answers_check fun hr => answers_check fun he =>
    answers_check fun hf => answers_check fun hroom => by
      obtain ⟨h1, h2⟩ := enrolBody_some hb
      have ho : opening ≤ 999999 := by simpa using hr
      exact answers_change (.money (.enrol s card cls opening h1 h2 ho (by simpa using he) (not_le.1 hf) (room_of_not hroom))) _

theorem retireWork_answers (body : List Byte) (s : State) : Answers s (retireWork body s) :=
  answers_withBody fun card _ => answers_withPurse fun p hc hp => answers_check fun hh => answers_check fun hroom => by
    subst hc
    exact answers_change (.money (.retire s p hp (by simpa using hh) (room_of_not hroom))) _

theorem blockWork_answers (body : List Byte) (s : State) : Answers s (blockWork body s) :=
  answers_withBody fun card _ => answers_withPurse fun p _ hp => by
    refine ⟨.changes (.single (.block s p hp)), fun hne => absurd ?_ hne⟩
    unfold State.blockPurse
    split
    · rfl
    · split <;> rfl

theorem unblockWork_answers (body : List Byte) (s : State) : Answers s (unblockWork body s) :=
  answers_withBody fun _ _ => answers_withPurse fun p _ _ => answers_change (.unblock s p.card) _

theorem reclassWork_answers (body : List Byte) (s : State) : Answers s (reclassWork body s) :=
  answers_withBody fun (_, cls) _ => answers_withPurse fun p _ _ => answers_change (.reclass s p.card cls) _

theorem adjustWork_answers (body : List Byte) (s : State) : Answers s (adjustWork body s) :=
  answers_withBody fun (card, amount) _ => answers_check fun _ => answers_withPurse fun p hc hp =>
    answers_check fun hr => answers_check fun hroom => by
      subst hc
      rw [balanceInRange_false, not_or, not_lt, not_lt] at hr
      exact answers_change (.money (.adjust s p amount hp hr.1 hr.2 (room_of_not hroom))) _

theorem purseReadWork_answers (body : List Byte) (s : State) : Answers s (purseReadWork body s) :=
  answers_withBody fun _ _ => answers_withPurse fun _ _ _ => answers_same s _

theorem purseNextWork_answers (body : List Byte) (s : State) : Answers s (purseNextWork body s) :=
  answers_withBody fun card _ => by
    split
    · exact answers_same s _
    · exact answers_refuse s _

theorem classSetWork_answers (body : List Byte) (s : State) : Answers s (classSetWork body s) :=
  answers_withBody fun (cls, rec) _ =>
    answers_ite (fun hr => answers_change (.money (.classSet s cls rec hr)) _) fun _ => answers_refuse s _

/-! ## The credit unit -/

theorem creditWork_answers (body : List Byte) (s : State) : Answers s (creditWork body s) :=
  answers_withBody fun (card, amount) _ => answers_check fun _ => answers_check fun _ => answers_withPurse fun p hc hp =>
    answers_check fun hb => answers_check fun hroom => by
      subst hc
      exact answers_change (.money (.credit s p amount 0 _ hp (not_lt.1 hb) (room_of_not hroom) fun _ => ⟨rfl, rfl, rfl⟩)) _

/-- An empty batch with the limits R113 checks is sound. -/
theorem batchOpened_sound {s : State} {batchId count total : Nat} (h1 : 1 ≤ batchId) (h2 : batchId ≤ 65535)
    (hc : ¬ (count = 0 ∨ Config.maxBatch < count)) (ht : ¬ (total < count ∨ count * 200000 < total)) :
    (s.setCredit { state := .opened, batchId := batchId, declaredCount := count, declaredTotal := total, staging := [],
                   stagedSum := 0, results := [], summary := BatchSummary.zero }).BatchSound := by
  simp only [Config.maxBatch] at hc
  refine ⟨rfl, by simp, ?_, ?_, ?_, h2, rfl, by simp, fun _ => ⟨h1, ?_, ?_⟩, fun _ => ⟨rfl, rfl⟩, by simp⟩ <;>
    simp only [State.setCredit_credit, List.length_nil] <;> omega

theorem batchOpenWork_answers (body : List Byte) (s : State) : Answers s (batchOpenWork body s) :=
  answers_withBody fun (batchId, count, total) hb => answers_check fun hc => answers_check fun ht => answers_check fun _ => by
    obtain ⟨h1, h2⟩ := batchOpenBody_some hb
    exact answers_change (.batch s _ fun _ => batchOpened_sound h1 h2 hc ht) _

/-- An item in range, staged in an open batch that declares more, leaves the batch sound (R114). -/
theorem batchItem_sound {s : State} {card amount : Nat} (h1 : 1 ≤ card) (h2 : card ≤ 99999999) (ha : 1 ≤ amount)
    (ha' : amount ≤ 200000) (ho : s.credit.state = .opened) (hn : s.credit.staging.length < s.credit.declaredCount)
    (hs : s.BatchSound) :
    (s.setCredit { s.credit with
      staging := s.credit.staging ++ [{ card := card, amount := amount }]
      stagedSum := s.credit.stagedSum + amount }).BatchSound := by
  obtain ⟨hsum, hitems, -, hdc, hdt, hid, hrej, hnone, hsome, hzero, hclosed⟩ := hs
  refine ⟨by simp [hsum], ?_, by simpa using hn, hdc, hdt, hid, hrej, hnone, hsome, hzero, fun h => absurd h (by simp [ho])⟩
  intro i hi
  rcases List.mem_append.1 hi with hi | hi
  · exact hitems i hi
  · obtain rfl := List.mem_singleton.1 hi
    exact ⟨ha, ha', h1, h2⟩

theorem batchItemWork_answers (body : List Byte) (s : State) : Answers s (batchItemWork body s) :=
  answers_withBody fun (card, amount) hb => answers_check fun ha => answers_check fun ho => answers_check fun hn => by
    obtain ⟨h1, h2⟩ := creditBody_some hb
    simp only [Config.maxCredit] at ha
    exact answers_change (.batch s _
      (batchItem_sound h1 h2 (by omega) (by omega) (not_not.1 ho) (not_le.1 hn))) _

theorem batchAbort_sound {s : State} (ho : s.credit.state = .opened) (hs : s.BatchSound) :
    (s.setCredit { s.credit with
      state := .none, batchId := 0, declaredCount := 0, declaredTotal := 0, staging := [], stagedSum := 0 }).BatchSound := by
  obtain ⟨-, -, -, -, -, -, hrej, -, -, hzero, -⟩ := hs
  exact ⟨rfl, by simp, by simp, by simp, by simp, by simp, hrej, fun _ => ⟨rfl, rfl, rfl⟩, by simp,
    fun _ => hzero (by simp [ho]), by simp⟩

theorem batchAbortWork_answers (body : List Byte) (s : State) : Answers s (batchAbortWork body s) :=
  answers_withBody fun _ _ => answers_check fun ho => answers_change (.batch s _ (batchAbort_sound (not_not.1 ho))) _

theorem batchResultWork_answers (body : List Byte) (s : State) : Answers s (batchResultWork body s) :=
  answers_withBody fun index _ => answers_ite (fun _ => answers_same s _) fun _ => by
    split
    · exact answers_same s _
    · exact answers_refuse s _

/-! ### The close of a batch -/

/-- The tally of a close that has taken the items `done`: one verdict for each, and the amounts add up (R117). -/
def CloseTally.Sums (t : CloseTally) (done : List BatchItem) : Prop :=
  t.summary.rejectedCount = t.results.length ∧ t.summary.appliedCount + t.summary.rejectedCount = done.length ∧
    (∀ r ∈ t.results, 1 ≤ r.index ∧ r.index ≤ done.length) ∧
    t.summary.appliedTotal + (t.results.map (fun r => ((done[r.index - 1]?).map BatchItem.amount).getD 0)).sum =
      (done.map BatchItem.amount).sum

/-- The amounts of the rejected items are read alike in a longer list. -/
theorem rejectedAmounts_append {results : List RejectedItem} {done : List BatchItem} (item : BatchItem)
    (h : ∀ r ∈ results, 1 ≤ r.index ∧ r.index ≤ done.length) :
    results.map (fun r => (((done ++ [item])[r.index - 1]?).map BatchItem.amount).getD 0) =
      results.map (fun r => ((done[r.index - 1]?).map BatchItem.amount).getD 0) := by
  refine List.map_congr_left fun r hr => ?_
  obtain ⟨h1, h2⟩ := h r hr
  rw [List.getElem?_append_left (by omega)]

theorem sums_apply {t : CloseTally} {done : List BatchItem} (h : t.Sums done) (item : BatchItem) (seq : Nat) :
    (t.apply item.amount seq).Sums (done ++ [item]) := by
  obtain ⟨hr, hn, hi, hs⟩ := h
  refine ⟨hr, ?_, fun r hr => ⟨(hi r hr).1, (hi r hr).2.trans (by simp)⟩, ?_⟩
  · simp only [CloseTally.apply, List.length_append, List.length_singleton]
    omega
  · simp only [CloseTally.apply, rejectedAmounts_append item hi, List.map_append, List.sum_append, List.map_cons, List.map_nil,
      List.sum_cons, List.sum_nil]
    omega

theorem sums_reject {t : CloseTally} {done : List BatchItem} (h : t.Sums done) (item : BatchItem) (reason : RejectReason) :
    (t.reject (done.length + 1) item.card reason).Sums (done ++ [item]) := by
  obtain ⟨hr, hn, hi, hs⟩ := h
  refine ⟨by simp [CloseTally.reject, hr], ?_, fun r hr => ?_, ?_⟩
  · simp only [CloseTally.reject, List.length_append, List.length_singleton]
    omega
  · rcases List.mem_append.1 hr with hr | hr
    · exact ⟨(hi r hr).1, (hi r hr).2.trans (by simp)⟩
    · obtain rfl := List.mem_singleton.1 hr
      simp
  · simp only [CloseTally.reject, List.map_append, rejectedAmounts_append item hi, List.map_cons, List.map_nil, List.sum_append,
      List.sum_cons, List.sum_nil, Nat.add_sub_cancel, List.getElem?_concat_length, Option.map_some, Option.getD_some]
    omega

/-- One item of a close is a credit or nothing, and the tally takes it into account (R116, R117). -/
theorem closeItem_step {s : State} {t : CloseTally} {done : List BatchItem} (h : t.Sums done) (item : BatchItem) :
    Changes s (s.closeItem t (done.length + 1) item).1 ∧
      (s.closeItem t (done.length + 1) item).2.Sums (done ++ [item]) := by
  unfold State.closeItem
  split
  next p hv hp =>
    unfold State.itemRefusal at hv
    rw [hp] at hv
    split at hv
    · cases hv
    · next hroom =>
      dsimp only at hv
      split at hv
      · cases hv
      · next hb =>
        have hc := purse?_card hp
        exact ⟨.single (.money (.credit s p item.amount 0 (fun b => .batchCredit item.card item.amount b s.credit.batchId) (hc ▸ hp)
          (not_lt.1 hb) (room_of_not hroom) fun _ => ⟨hc.symm, rfl, rfl⟩)), sums_apply h item _⟩
  next => exact ⟨.refl, sums_reject h item _⟩
  next => exact ⟨.refl, sums_reject h item _⟩

theorem closeItems_steps (items : List BatchItem) {s : State} {t : CloseTally} {done : List BatchItem} (h : t.Sums done) :
    Changes s (closeItems items (done.length + 1) s t).1 ∧
      (closeItems items (done.length + 1) s t).2.Sums (done ++ items) := by
  induction items generalizing s t done with
  | nil => exact ⟨.refl, by simpa [closeItems] using h⟩
  | cons item items ih =>
    obtain ⟨h1, h2⟩ := closeItem_step (s := s) h item
    have hl : done.length + 1 + 1 = (done ++ [item]).length + 1 := by simp
    rw [closeItems, hl]
    obtain ⟨h3, h4⟩ := ih (s := (s.closeItem t (done.length + 1) item).1) h2
    exact ⟨h1.trans h3, by simpa using h4⟩

theorem sums_zero : CloseTally.zero.Sums [] := ⟨rfl, rfl, by simp [CloseTally.zero], rfl⟩

theorem applyCredit_credit (s : State) (p : Purse) (amount source : Nat) (body : Int → RecordBody) :
    (s.applyCredit p amount source body).credit = s.credit := by
  unfold State.applyCredit
  rw [appendRecord_eq]
  rfl

theorem closeItem_credit (s : State) (t : CloseTally) (index : Nat) (item : BatchItem) :
    (s.closeItem t index item).1.credit = s.credit := by
  unfold State.closeItem
  split
  · exact applyCredit_credit ..
  · rfl
  · rfl

theorem closeItems_credit (items : List BatchItem) (index : Nat) (s : State) (t : CloseTally) :
    (closeItems items index s t).1.credit = s.credit := by
  induction items generalizing index s t with
  | nil => rfl
  | cons item items ih => rw [closeItems, ih, closeItem_credit]

/-- A close whose tally is that of all staged items leaves the batch sound. -/
theorem batchClosed_sound {s : State} {t : CloseTally} (ht : t.Sums s.credit.staging) (ho : s.credit.state = .opened)
    (hm : ¬ (s.credit.staging.length ≠ s.credit.declaredCount ∨ s.credit.stagedSum ≠ s.credit.declaredTotal))
    (hs : s.BatchSound) {u : State} :
    (u.setCredit { s.credit with state := .closed, results := t.results, summary := t.summary }).BatchSound := by
  obtain ⟨hsum, hitems, hle, hdc, hdt, hid, -, -, hsome, -, -⟩ := hs
  obtain ⟨hr, hn, -, ha⟩ := ht
  obtain ⟨hcount, htotal⟩ := not_or.1 hm
  refine ⟨hsum, hitems, hle, hdc, hdt, hid, hr, by simp, fun _ => hsome (by simp [ho]), by simp,
    fun _ => ⟨not_not.1 hcount, not_not.1 htotal, hn.trans (not_not.1 hcount), ?_⟩⟩
  exact ha.trans (hsum.symm.trans (not_not.1 htotal))

theorem batchCloseWork_answers (body : List Byte) (s : State) : Answers s (batchCloseWork body s) :=
  answers_withBody fun _ _ => answers_check fun ho => answers_check fun _ => answers_check fun hm => by
    obtain ⟨hc, hsums⟩ := closeItems_steps s.credit.staging (s := s) sums_zero
    have hcr := closeItems_credit s.credit.staging 1 s CloseTally.zero
    refine answers_changes (hc.tail (.batch _ _ fun hb => ?_)) _
    exact batchClosed_sound (by simpa using hsums) (not_not.1 ho) hm (by simpa only [State.BatchSound, List.length_nil, hcr] using hb)

/-! ## The time unit and the station table -/

theorem clockSetWork_answers (body : List Byte) (s : State) : Answers s (clockSetWork body s) :=
  answers_withBody fun (day, minute, second) hb => answers_check fun _ => by
    obtain ⟨hd, hm, hs⟩ := clockSetBody_some hb
    refine answers_change (.time s _ (fun h => ?_) fun _ => rfl) _
    obtain ⟨-, -, -, hr, -, hw⟩ := h
    exact ⟨hs, hm, hd, hr, by simp, hw⟩

theorem rolloverSetWork_answers (body : List Byte) (s : State) : Answers s (rolloverSetWork body s) :=
  answers_withBody fun (minute, flag) hb => answers_check fun _ => by
    refine answers_change (.time s _ ?_ ?_) _
    · rintro ⟨hs, hm, hd, -, hw⟩
      exact ⟨hs, hm, hd, rolloverSetBody_some hb, hw⟩
    · exact fun hv => hv

theorem windowSetWork_answers (body : List Byte) (s : State) : Answers s (windowSetWork body s) :=
  answers_withBody fun windows hb => answers_check fun _ => answers_check fun hg => by
    refine answers_change (.time s _ ?_ ?_) _
    · rintro ⟨hs, hm, hd, hr, hv, -⟩
      exact ⟨hs, hm, hd, hr, hv, by simpa using hg, windowSetBody_some hb⟩
    · exact fun hv => hv

theorem stationSetWork_answers (body : List Byte) (s : State) : Answers s (stationSetWork body s) :=
  answers_withBody fun (station, e) hb => answers_check fun hr => by
    obtain ⟨h1, h2⟩ := stationSetBody_some hb
    have hr' : e.inRange = true := by simpa using hr
    exact answers_ite (fun hk => answers_change (.station s station e hr' hk) _)
      fun _ => answers_change (.release s station e h1 h2 hr') _

/-! ## The journal -/

/-- The number after one held, or the next one, is of the series (R124, R131). -/
theorem nextSequence_mem_series {j : Journal} (hc : consecutive j.series = true) {r : Record} (hr : r ∈ j.records) :
    nextSequence r.seq ∈ j.series := by
  unfold Journal.series at hc ⊢
  generalize j.records = l at hc hr
  induction l with
  | nil => cases hr
  | cons a l ih =>
    cases l with
    | nil =>
      obtain rfl := List.mem_singleton.1 hr
      simp only [List.map_cons, List.map_nil, List.cons_append, List.nil_append, consecutive, Bool.and_true, beq_iff_eq] at hc
      simp [nextSequence_eq, hc]
    | cons b l =>
      simp only [List.map_cons, List.cons_append, consecutive, Bool.and_eq_true, beq_iff_eq] at hc
      rcases List.mem_cons.1 hr with rfl | hr
      · simp [nextSequence_eq, ← hc.1]
      · exact List.mem_cons_of_mem _ (ih (by simpa using hc.2) hr)

theorem start_mem_series (j : Journal) : j.start ∈ j.series := by
  unfold Journal.start Journal.series
  cases j.records <;> simp

theorem jnlNextWork_answers (body : List Byte) (s : State) : Answers s (jnlNextWork body s) :=
  answers_withBody fun _ _ => by
    dsimp only
    split
    next r hr =>
      have hc : r.seq = s.journal.cursor := by simpa using List.find?_some hr
      refine answers_change (.cursor s _ fun hs => ?_) _
      rw [← hc]
      exact nextSequence_mem_series hs.2.1 (List.mem_of_find?_eq_some hr)
    next => exact answers_refuse s _

theorem jnlConfirmWork_answers (body : List Byte) (s : State) : Answers s (jnlConfirmWork body s) :=
  answers_withBody fun seq _ => by
    dsimp only
    split
    next => exact answers_refuse s _
    next k hk => exact answers_work (.confirm s seq k hk) _

theorem jnlRewindWork_answers (body : List Byte) (s : State) : Answers s (jnlRewindWork body s) :=
  answers_withBody fun _ _ => answers_change (.cursor s _ fun _ => start_mem_series _) _

theorem journalSetWork_answers (body : List Byte) (s : State) : Answers s (journalSetWork body s) :=
  answers_withBody fun (mark, reload) _ => answers_check fun hg => by
    have hg' : journalSettingsGood mark reload = true := by simpa using hg
    simp only [journalSettingsGood, Bool.and_eq_true, decide_eq_true_eq, and_assoc] at hg'
    obtain ⟨h1, h2, h3, h4⟩ := hg'
    exact answers_change (.settings s mark reload h1 h2 h3 h4) _

/-! ## Engine control -/

theorem goWork_answers (body : List Byte) (s : State) : Answers s (goWork body s) :=
  answers_withBody fun _ _ => answers_ite (fun hc => by
    refine answers_change (.engine s _ (fun h => ?_) (.inr ⟨by simp, hc.2⟩)) _
    obtain ⟨ht, hr, h⟩ := h
    simp only [EngineControl.Sound, hc.1, reduceCtorEq, iff_false] at ht hr ⊢
    exact ⟨ht, hr, h⟩) fun _ => answers_refuse s _

theorem freeze_sound {e : EngineControl} {limit : Nat} (hl : limit ≤ 15) (h : e.Sound) : (e.freeze limit).Sound := by
  obtain ⟨ht, hr, h3, h4, h5, h6⟩ := h
  simp only [EngineControl.Sound, EngineControl.freeze, iff_true, h6, and_true]
  refine ⟨by split <;> omega, ?_, by split <;> omega, by split <;> omega, by split <;> omega⟩
  split
  next hf => exact hr.2 hf
  next => simp

theorem freezeWork_answers (body : List Byte) (s : State) : Answers s (freezeWork body s) :=
  answers_withBody fun limit _ => answers_check fun hl => answers_check fun hu => by
    refine answers_change (.engine s _ (freeze_sound (not_lt.1 hl)) (.inl ?_)) _
    simp [EngineControl.freeze, hu]

theorem run_sound {e : EngineControl} (h : e.Sound) : e.run.Sound := by
  obtain ⟨-, -, -, h4, h5, h6⟩ := h
  exact ⟨by simp [EngineControl.run], by simp [EngineControl.run], by simp [EngineControl.run], h4, h5, h6⟩

theorem thawWork_answers (body : List Byte) (s : State) : Answers s (thawWork body s) :=
  answers_withBody fun _ _ => answers_ite (fun hf => by
    refine answers_change (.engine s _ run_sound (.inl ?_)) _
    simp [EngineControl.run, hf]) fun _ => answers_refuse s _

theorem restartWork_answers (body : List Byte) (s : State) : Answers s (restartWork body s) :=
  answers_withBody fun _ _ => answers_work (.restart s) _

/-! ## The attention unit and the watch entries -/

theorem CauseFlags.get_set (f : CauseFlags) (c d : Cause) (b : Bool) : (f.set c b).get d = if d = c then b else f.get d := by
  cases c <;> cases d <;> rfl

theorem mem_causesHighestFirst (c : Cause) : c ∈ causesHighestFirst := by cases c <;> decide

/-- A take of a level cause keeps the flags coherent (R176). -/
theorem takeLevel_coherent {a : AttentionUnit} (h : a.Coherent) (c : Cause) : (a.takeLevel c).Coherent := by
  obtain ⟨hp, ha, he⟩ := h
  unfold AttentionUnit.takeLevel
  split
  next hc =>
    refine ⟨hp, fun d hd hack => ?_, he⟩
    by_cases hdc : d = c
    · exact hdc ▸ hc
    · exact ha d hd (by rwa [CauseFlags.get_set, if_neg hdc] at hack)
  next hc =>
    refine ⟨fun d hd hcond => ?_, ha, he⟩
    have hdc : d ≠ c := by rintro rfl; exact hc hcond
    rw [CauseFlags.get_set, if_neg hdc]
    exact hp d hd hcond

/-- A write of the pending flag of a cause without a condition keeps the flags coherent (R177). -/
theorem setPending_coherent {a : AttentionUnit} {c : Cause} (b : Bool) (hc : a.condition.get c = false) (h : a.Coherent) :
    { a with pending := a.pending.set c b : AttentionUnit }.Coherent := by
  obtain ⟨hp, hr⟩ := h
  refine ⟨fun d hd hcond => ?_, hr⟩
  have hdc : d ≠ c := by rintro rfl; exact absurd hcond (by simp [hc])
  rw [CauseFlags.get_set, if_neg hdc]
  exact hp d hd hcond

theorem takeLevel_condition (a : AttentionUnit) (c : Cause) : (a.takeLevel c).condition = a.condition := by
  unfold AttentionUnit.takeLevel; split <;> rfl

/-- The three causes of R176, whose conditions are those of the journal. -/
def Cause.isLevel : Cause → Bool
  | .overdue | .journalFull | .journalHigh => true
  | .watchHit | .blockedSeen | .freezeChange | .laneBusFault | .rollover => false

theorem State.AttentionSound.coherent {s : State} (h : s.AttentionSound) : s.attention.Coherent := h.2

/-- A latched cause has no condition. -/
theorem State.AttentionSound.condition_latched {s : State} (h : s.AttentionSound) {c : Cause} (hc : c.isLevel = false) :
    s.attention.condition.get c = false := by
  rw [h.1]
  cases c with
  | overdue | journalFull | journalHigh => cases hc
  | watchHit | blockedSeen | freezeChange | laneBusFault | rollover => rfl

/-- A latched cause raised is a change of the attention unit. -/
theorem change_raiseCause (s : State) {c : Cause} (hc : c.isLevel = false) : Change s (s.raiseCause c) :=
  .attention s _ rfl fun h => setPending_coherent true (h.condition_latched hc) h.coherent

theorem take_condition (a : AttentionUnit) (c : Cause) : (a.take c).condition = a.condition := by
  cases c with
  | overdue | journalFull | journalHigh => exact takeLevel_condition a _
  | watchHit | blockedSeen | freezeChange | laneBusFault | rollover => rfl

theorem take_coherent {s : State} (h : s.AttentionSound) (c : Cause) : (s.attention.take c).Coherent := by
  cases c with
  | overdue | journalFull | journalHigh => exact takeLevel_coherent h.coherent _
  | watchHit | blockedSeen | freezeChange | laneBusFault | rollover =>
    exact setPending_coherent false (h.condition_latched rfl) h.coherent

theorem mapEntries_watch_sound {f : WatchEntry → WatchEntry} (hf : ∀ w, w.Sound → (f w).Sound) {ws : Vector WatchEntry 4}
    (h : ∀ w ∈ ws.toList, w.Sound) : ∀ w ∈ (mapEntries f ws).toList, w.Sound := by
  intro w hw
  rw [mapEntries_eq, Vector.toList_map] at hw
  obtain ⟨v, hv, rfl⟩ := List.mem_map.1 hw
  exact hf v (h v hv)

theorem unlatched_sound {w : WatchEntry} (h : w.Sound) : { w with latch := false : WatchEntry }.Sound := by
  obtain ⟨hc, hh, hl, h0⟩ := h
  refine ⟨hc, hh, hl, fun hz => ?_⟩
  rw [h0 hz]
  rfl

/-- The raiser's part of a take changes its own block only, and keeps it sound. -/
theorem raiserTake_changes (s : State) (c : Cause) : Changes s (s.raiserTake c) := by
  cases c with
  | watchHit =>
    exact .single (.lane s _ fun h => ⟨mapEntries_watch_sound (fun _ => unlatched_sound) h.1, h.2⟩)
  | blockedSeen => exact .single (.lane s _ fun h => ⟨h.1, Nat.zero_le _, h.2.2⟩)
  | freezeChange =>
    refine .single (.engine s _ (fun h => ?_) (.inl Iff.rfl))
    obtain ⟨h1, h2, h3, h4, h5, -⟩ := h
    exact ⟨h1, h2, h3, h4, h5, Nat.zero_le _⟩
  | laneBusFault => exact .single (.port s _ fun h => h)
  | rollover | overdue | journalFull | journalHigh => exact .refl

theorem raiserTake_attention_journal (s : State) (c : Cause) :
    (s.raiserTake c).attention = s.attention ∧ (s.raiserTake c).journal = s.journal := by
  cases c <;> exact ⟨rfl, rfl⟩

theorem attnTakeWork_answers (body : List Byte) (s : State) : Answers s (attnTakeWork body s) :=
  answers_withBody fun _ _ => by
    split
    next => exact answers_same s _
    next c _ =>
      obtain ⟨ha, hj⟩ := raiserTake_attention_journal s c
      refine answers_changes ((raiserTake_changes s c).tail (.attention _ _ ?_ fun h => ?_)) _
      · rw [ha]; exact take_condition s.attention c
      · have hs : s.AttentionSound := by simpa only [State.AttentionSound, ha, hj] using h
        exact take_coherent hs c

theorem attnDoneWork_answers (body : List Byte) (s : State) : Answers s (attnDoneWork body s) :=
  answers_withBody fun _ _ => by
    refine answers_change (.attention s _ ?_ ?_) _
    · rfl
    · exact State.AttentionSound.coherent

theorem attnEnableWork_answers (body : List Byte) (s : State) : Answers s (attnEnableWork body s) :=
  answers_withBody fun _ hb => by
    refine answers_change (.attention s _ ?_ fun h => ?_) _
    · rfl
    · obtain ⟨hp, ha, -⟩ := h.coherent
      exact ⟨hp, ha, attnEnableBody_some hb⟩

theorem watchSetWork_answers (body : List Byte) (s : State) : Answers s (watchSetWork body s) :=
  answers_withBody fun (entry, card) hb => by
    refine answers_change (.lane s _ fun h => ⟨fun w hw => ?_, ?_⟩) _
    rotate_left
    · exact h.2
    rw [Vector.toList_setIfInBounds] at hw
    rcases List.mem_or_eq_of_mem_set hw with hw | rfl
    · exact h.1 w hw
    · refine ⟨watchSetBody_some hb, Nat.zero_le _, Nat.zero_le _, fun h0 => ?_⟩
      rw [show card = 0 from h0]
      rfl

/-! ## The lane bus port and the pages -/

theorem takeRate_sound {p : LanePort} {rate : Nat} (hr : laneRateGood rate) (h : p.Sound) : (p.takeRate rate).Sound := by
  obtain ⟨h1, h2, h3, h4⟩ := h
  unfold LanePort.takeRate
  split
  next => exact ⟨hr, by simp, fun _ => rfl, h4⟩
  next hc =>
    refine ⟨h1, fun r he => ?_, fun hi => absurd (Or.inl hi) hc, h4⟩
    cases he
    exact hr

theorem laneRateSetWork_answers (body : List Byte) (s : State) : Answers s (laneRateSetWork body s) :=
  answers_withBody fun code _ => by
    split
    next => exact answers_refuse s _
    next rate hr => exact answers_change (.port s _ (takeRate_sound (rateOfCode_some hr))) _

theorem statusClearWork_answers (body : List Byte) (s : State) : Answers s (statusClearWork body s) :=
  answers_withBody fun _ _ => by
    refine answers_change (.port s _ fun h => ?_) _
    obtain ⟨h1, h2, h3, h4, h5, -⟩ := h
    exact ⟨h1, h2, h3, h4, h5, by simp [LaneCounters.Sound, LaneCounters.zero]⟩

theorem statusWork_answers (body : List Byte) (s : State) : Answers s (statusWork body s) :=
  answers_withBody fun _ _ => answers_same s _

/-! ## The catalogue -/

/-- A work that answers in every state. -/
def Answering (work : State → State × OfficeAnswer) : Prop := ∀ s, Answers s (work s)

/-- Every office command refuses and leaves the state, or does one `Work`. -/
theorem commandWork_answers (kind : Byte) (body : List Byte) : Answering (commandWork kind body) := by
  unfold commandWork
  split
  · exact enrolWork_answers body
  · exact retireWork_answers body
  · exact blockWork_answers body
  · exact unblockWork_answers body
  · exact reclassWork_answers body
  · exact adjustWork_answers body
  · exact creditWork_answers body
  · exact purseReadWork_answers body
  · exact purseNextWork_answers body
  · exact classSetWork_answers body
  · exact windowSetWork_answers body
  · exact rolloverSetWork_answers body
  · exact stationSetWork_answers body
  · exact journalSetWork_answers body
  · exact laneRateSetWork_answers body
  · exact clockSetWork_answers body
  · exact goWork_answers body
  · exact freezeWork_answers body
  · exact thawWork_answers body
  · exact restartWork_answers body
  · exact batchOpenWork_answers body
  · exact batchItemWork_answers body
  · exact batchCloseWork_answers body
  · exact batchAbortWork_answers body
  · exact batchResultWork_answers body
  · exact jnlNextWork_answers body
  · exact jnlConfirmWork_answers body
  · exact jnlRewindWork_answers body
  · exact watchSetWork_answers body
  · exact attnTakeWork_answers body
  · exact attnDoneWork_answers body
  · exact attnEnableWork_answers body
  · exact statusWork_answers body
  · exact statusClearWork_answers body
  · exact fun s => answers_refuse s .badRequest

/-- Every office command row is the taking of its frame. -/
theorem exec_officeForm {c : Instr} {kind : Byte} {len : Nat} {body : List Byte} (h : officeForm c = some (kind, len, body))
    (s : State) : exec c s = .next (s.takeCommand (commandWork kind body)) := by
  cases c <;> cases h <;> rfl

end Sys2Proof.Machine
end

/-! # Lane requests, events and ticks as changes

`takeRequest_changes`, `tickSupplied_changes` and the events of the two ports are put together in `exec_event`. -/

section
namespace Sys2Proof.Machine

/-! ## Watch matching and the common checks -/

theorem bump_le {top n : Nat} (h : n ≤ top) : bump top n ≤ top := by
  unfold bump
  split <;> omega

theorem hit_sound {w : WatchEntry} {station card : Nat} (kind : RequestKind) (hs : station ≤ 14) (hc : 1 ≤ card)
    (h : w.Sound) : (w.hit station card kind).Sound := by
  unfold WatchEntry.hit
  split
  next hw =>
    obtain ⟨h1, h2, -, -⟩ := h
    exact ⟨h1, bump_le h2, hs, fun h0 => by simp only at h0; omega⟩
  next => exact h

theorem matchWatch_changes (s : State) {station card : Nat} (kind : RequestKind) (hs : station ≤ 14) (hc : 1 ≤ card) :
    Changes s (s.matchWatch station card kind) := by
  unfold State.matchWatch
  split
  · refine .tail (.single (.lane s _ fun h => ?_)) (change_raiseCause _ rfl)
    exact ⟨mapEntries_watch_sound (fun _ => hit_sound kind hs hc) h.1, h.2⟩
  · exact .refl

theorem seeBlocked_changes (s : State) {station : Nat} (card : Nat) (hs : station ≤ 14) :
    Changes s (s.seeBlocked station card) := by
  refine .tail (.single (.lane s _ fun h => ?_)) (change_raiseCause _ rfl)
  exact ⟨h.1, bump_le h.2.1, hs⟩

theorem read_some {k : RequestKind} {body : List Byte} {card amount : Nat} (h : k.read body = some (card, amount)) :
    1 ≤ card ∧ k.amountGood amount = true := by
  obtain ⟨-, hok, hv⟩ := bodyOf_some h
  cases hv
  simp only [Bool.and_eq_true, cardInRange_iff] at hok
  exact ⟨hok.1.1, hok.2⟩

/-- What step 7 of a request may rely on: the checks of steps 1 to 6 (R87 to R90). -/
structure RequestKind.Checked (k : RequestKind) (station : Nat) (p : Purse) (amount : Nat) (s : State) : Prop where
  purse : s.purse? p.card = some p
  active : p.state = .active
  amountGood : k.amountGood amount = true
  allowed : k.allowed (s.station station).kind = true
  served : k.engineRefusal s.engine.state = none

theorem commonChecks_changes {s : State} {k : RequestKind} {station : Nat} {body : List Byte}
    {owner : Purse → Nat → State → State × LaneAnswer} (hs : station ≤ 14)
    (ho : ∀ p amount u, k.Checked station p amount u → Changes u (owner p amount u).1) :
    Changes s (s.commonChecks k station body owner).1 := by
  unfold State.commonChecks
  split
  next => exact .refl
  next card amount hr =>
    obtain ⟨hc, hg⟩ := read_some hr
    have hw := matchWatch_changes s k hs hc
    dsimp only
    split
    next => exact hw
    next hk =>
      split
      next => exact hw
      next he =>
        split
        next => exact hw
        next p hp =>
          split
          next => exact hw.trans (seeBlocked_changes _ card hs)
          next ha =>
            have hact : p.state = .active := by cases hst : p.state <;> simp_all
            exact hw.trans (ho p amount _ ⟨(purse?_card hp).symm ▸ hp, hact, hg, by simpa using hk, he⟩)

/-! ## The owning blocks -/

/-- HOLD, SETTLE, SALE and CASH are served while RUNNING alone (R89). -/
theorem running_of_served {k : RequestKind} {e : EngineState} (hb : k ≠ .bal) (hd : k ≠ .drop)
    (h : k.engineRefusal e = none) : e = .running := by
  cases e with
  | unset => cases h
  | running => rfl
  | frozen =>
    cases k with
    | bal => exact absurd rfl hb
    | drop => exact absurd rfl hd
    | hold | settle | sale | cash => cases h

/-- HOLD, SETTLE, SALE and DROP come from a till (R86). -/
theorem till_of_allowed {k : RequestKind} {t : StationKind} (hb : k ≠ .bal) (hc : k ≠ .cash) (h : k.allowed t = true) :
    t = .till := by
  cases t with
  | till => rfl
  | none => cases k <;> cases h
  | kiosk =>
    cases k with
    | bal => exact absurd rfl hb
    | cash => exact absurd rfl hc
    | hold | settle | sale | drop => cases h

/-- No more is granted than is asked for (R57). -/
theorem grantedAmount_le {s : State} {p : Purse} {asked g : Nat} (h : s.grantedAmount p asked = .ok g) : g ≤ asked := by
  unfold State.grantedAmount at h
  dsimp only at h
  split at h
  · cases h; omega
  · split at h
    · cases h
    · split at h
      · cases h
      · cases h
        split <;> omega

theorem holdOwner_changes {s : State} {station amount : Nat} {p : Purse} (h : RequestKind.hold.Checked station p amount s) :
    Changes s (holdOwner station p amount s).1 := by
  have hrun : s.engine.state = .running := running_of_served (by decide) (by decide) h.served
  have htill : (s.station station).kind = .till := till_of_allowed (by decide) (by decide) h.allowed
  have hasked : amount ≤ 99999 := by simpa [RequestKind.amountGood] using h.amountGood
  unfold holdOwner
  split
  next hh =>
    unfold State.newHold
    split
    · exact .refl
    next hq =>
      split
      · exact .refl
      next hpool =>
        split
        · exact .refl
        next g hg =>
          exact .single (.openHold s p station g h.purse h.active hh htill hrun (not_le.1 hq) (not_le.1 hpool)
            ((grantedAmount_le hg).trans hasked))
  next st _ =>
    split
    · unfold State.refresh
      split
      · exact .refl
      next g hg => exact .single (.refreshHold s station p.card g htill ((grantedAmount_le hg).trans hasked))
    · exact .refl

/-- A charge is refused and changes nothing, or is applied (R48 to R52). -/
theorem charge_cases (s : State) (p : Purse) (station gross kept : Nat) :
    (∃ st, s.charge p station gross kept = (some st, s, .refuse p.card st)) ∨
      s.chargeRefusal p (s.chargeOf p gross) kept = none ∧
        ∃ a, s.charge p station gross kept = (none, s.applyCharge p (s.chargeOf p gross) station, a) := by
  unfold State.charge
  dsimp only
  cases hr : s.chargeRefusal p (s.chargeOf p gross) kept with
  | some st => exact .inl ⟨st, rfl⟩
  | none => exact .inr ⟨rfl, _, rfl⟩

theorem appendRecord_holds (s : State) (source : Nat) (body : RecordBody) : (s.appendRecord source body).holds = s.holds := by
  rw [appendRecord_eq]
  rfl

theorem settleOwner_changes {s : State} {station amount : Nat} {p : Purse}
    (h : RequestKind.settle.Checked station p amount s) : Changes s (settleOwner station p amount s).1 := by
  unfold settleOwner
  split
  next =>
    unfold State.settleWithoutHold
    split
    · exact .single (.forget s station)
    · exact .refl
  next hold hhold =>
    rcases charge_cases s p station amount 0 with ⟨st, he⟩ | ⟨hr, a, he⟩
    · rw [he]
    · rw [he]
      refine .tail (.single (.money (.charge s p amount 0 station h.purse hr))) (.removeHold _ _ _ hold ?_)
      rwa [State.hold?, State.applyCharge, appendRecord_holds]

theorem saleOwner_changes {s : State} {station amount : Nat} {p : Purse} (h : RequestKind.sale.Checked station p amount s) :
    Changes s (saleOwner station p amount s).1 := by
  unfold saleOwner
  rcases charge_cases s p station amount (s.keptForOther p station) with ⟨st, he⟩ | ⟨hr, a, he⟩
  · rw [he]
  · rw [he]; exact .single (.money (.charge s p amount _ station h.purse hr))

theorem dropOwner_changes (s : State) (station amount : Nat) (p : Purse) : Changes s (dropOwner station p amount s).1 := by
  unfold dropOwner
  split
  · exact .refl
  next h hh => exact .single (.removeHold s p.card station h hh)

theorem cashOwner_changes {s : State} {station amount : Nat} {p : Purse} (h : RequestKind.cash.Checked station p amount s) :
    Changes s (cashOwner station p amount s).1 := by
  unfold cashOwner
  split
  · exact .refl
  split
  · exact .refl
  split
  · exact .refl
  next hb =>
    split
    · exact .refl
    next hroom =>
      exact .single (.money (.credit s p amount station _ h.purse (not_lt.1 hb) (room_of_not hroom) fun _ => ⟨rfl, rfl, rfl⟩))

/-! ## Taking a request -/

theorem takeBack_sound {p : LanePort} (frame : LaneFrame) (outcome : Option LaneReply) (h : p.Sound) :
    (p.takeBack frame outcome).Sound := by
  obtain ⟨h1, h2, h3, h4, h5, h6⟩ := h
  unfold LanePort.takeBack
  split
  next =>
    refine ⟨h1, h2, fun hi => h3 ?_, fun hr => ?_, fun f hf => h5 f (List.mem_of_mem_tail hf), h6⟩
    · dsimp only at hi
      split at hi
      · cases hi
      · exact hi
    · dsimp only at hr ⊢
      split at hr
      next => cases outcome <;> cases hr
      next hc => exact fun hnil => hc ⟨hnil, hr⟩
  next => exact ⟨h1, h2, h3, h4, h5, h6⟩

theorem setLastReply_changes (s : State) (station : Nat) (r : Option LastReply) : Changes s (s.setLastReply station r) :=
  .single (.lane s _ fun h => h)

theorem takeRequest_changes {s : State} {station : Nat} {kind : Byte} {body : List Byte}
    {serve : State → State × Option LaneReply} (h : station ≤ 14 → Changes s (serve s).1) :
    Changes s (s.takeRequest station kind body serve) := by
  unfold State.takeRequest
  split
  · have hserve : Changes s (if (s.station station).kind = .none then (s, none) else serve s).1 := by
      split
      next => exact .refl
      next hk => exact h (station_bounds hk).2
    refine .tail (hserve.tail (.port _ _ (takeBack_sound _ _))) (.lane _ _ ?_)
    exact fun h => h
  · exact .refl

theorem takeChecked_changes {s : State} {k : RequestKind} {station : Nat} {body : List Byte}
    {owner : Purse → Nat → State → State × LaneAnswer}
    (ho : ∀ p amount u, k.Checked station p amount u → Changes u (owner p amount u).1) :
    Changes s (s.takeChecked k station body owner) :=
  takeRequest_changes fun hs => (commonChecks_changes hs ho).trans (setLastReply_changes _ _ _)

/-- Every lane request is a chain of changes. -/
theorem exec_laneForm_changes {c : Instr} {station : Nat} {kind : Byte} {body : List Byte}
    (h : laneForm c = some (station, kind, body)) (s : State) : ∃ t, exec c s = .next t ∧ Changes s t := by
  cases c with
  | bal => exact ⟨_, rfl, takeChecked_changes fun _ _ _ _ => .refl⟩
  | hold => exact ⟨_, rfl, takeChecked_changes fun _ _ _ => holdOwner_changes⟩
  | settle => exact ⟨_, rfl, takeChecked_changes fun _ _ _ => settleOwner_changes⟩
  | sale => exact ⟨_, rfl, takeChecked_changes fun _ _ _ => saleOwner_changes⟩
  | drop => exact ⟨_, rfl, takeChecked_changes fun p a u _ => dropOwner_changes u _ a p⟩
  | cash => exact ⟨_, rfl, takeChecked_changes fun _ _ _ => cashOwner_changes⟩
  | repeatReply => exact ⟨_, rfl, takeRequest_changes fun _ => .refl⟩
  | unknownRequestKind =>
    refine ⟨_, rfl, ?_⟩
    split
    · exact .refl
    · exact takeRequest_changes fun _ => setLastReply_changes _ _ _
  | _ => cases h

/-! ## The lane bus port -/

theorem counters_count_sound {c : LaneCounters} (f : LaneFault) (h : c.Sound) : (c.count f).Sound := by
  obtain ⟨h1, h2, h3, h4, h5, h6⟩ := h
  cases f with
  | parity => exact ⟨h1, bump_le h2, h3, h4, h5, h6⟩
  | badCheck => exact ⟨h1, h2, bump_le h3, h4, h5, h6⟩
  | timeout => exact ⟨h1, h2, h3, bump_le h4, h5, h6⟩
  | unknownStation => exact ⟨h1, h2, h3, h4, bump_le h5, h6⟩
  | replyLoss => exact ⟨h1, h2, h3, h4, h5, bump_le h6⟩

theorem laneFault_changes (s : State) (f : LaneFault) : Changes s (s.laneFault f) := by
  refine .tail (.single (.port s _ fun h => ?_)) (change_raiseCause _ (by rfl))
  obtain ⟨h1, h2, h3, h4, h5, h6⟩ := h
  exact ⟨h1, h2, h3, h4, h5, counters_count_sound f h6⟩

theorem enterIdle_changes (s : State) : Changes s s.enterIdle := by
  refine .single (.port s _ fun h => ?_)
  obtain ⟨h1, h2, -, -, h5, h6⟩ := h
  refine ⟨?_, by simp [LanePort.enterIdle], fun _ => rfl, by simp [LanePort.enterIdle], h5, h6⟩
  unfold LanePort.enterIdle
  cases hp : s.port.pendingRate with
  | none => exact h1
  | some r => exact h2 r hp

/-- The receiver goes to a state other than IDLE and the waiting for an outcome. -/
theorem setReceiver_changes (s : State) {r : LaneReceiver} (hi : r ≠ .idle) (hw : r ≠ .turnaround .awaited) :
    Changes s (s.setReceiver r) := by
  refine .single (.port s _ fun h => ?_)
  obtain ⟨h1, h2, -, -, h5⟩ := h
  exact ⟨h1, h2, fun he => absurd he hi, fun he => absurd he hw, h5⟩

theorem abandonLaneLength_changes (s : State) : Changes s s.abandonLaneLength :=
  (laneFault_changes s .badCheck).trans (setReceiver_changes _ (by simp) (by simp))

theorem judgeLaneFrame_changes (s : State) (address kind : Byte) (body : List Byte) (check : Byte) :
    Changes s (s.judgeLaneFrame address kind body check) := by
  unfold State.judgeLaneFrame
  split
  · exact abandonLaneLength_changes s
  next hlen =>
    split
    · exact (laneFault_changes s _).trans (enterIdle_changes _)
    split
    · exact (laneFault_changes s _).trans (enterIdle_changes _)
    next hk =>
      obtain ⟨hb1, hb2⟩ := station_bounds hk
      refine .single (.port s _ fun h => ?_)
      obtain ⟨h1, h2, -, -, h5, h6, h7⟩ := h
      refine ⟨h1, h2, by simp, by simp, fun f hf => ?_, bump_le h6, h7⟩
      rcases List.mem_append.1 hf with hf | hf
      · exact h5 f hf
      · obtain rfl := List.mem_singleton.1 hf
        exact ⟨hb1, hb2, not_lt.1 hlen⟩

theorem endTurnaround_changes (s : State) : Changes s s.endTurnaround := by
  unfold State.endTurnaround
  split
  · exact setReceiver_changes s (by simp) (by simp)
  · exact enterIdle_changes s
  · exact .refl

theorem preemptReply_changes (s : State) : Changes s s.preemptReply := by
  unfold State.preemptReply
  split
  · exact (laneFault_changes s _).trans (setReceiver_changes _ (by simp) (by simp))
  · exact setReceiver_changes s (by simp) (by simp)
  · exact .refl

theorem collideReply_changes (s : State) : Changes s s.collideReply := by
  unfold State.collideReply
  split
  · exact (laneFault_changes s _).trans (setReceiver_changes _ (by simp) (by simp))
  · exact .refl

theorem completeReply_changes (s : State) : Changes s s.completeReply := by
  unfold State.completeReply
  split
  · exact (setLastReply_changes s _ _).trans (enterIdle_changes _)
  · exact .refl

/-! ## The ticks -/

theorem changes_valid {s t : State} (h : Changes s t) (hv : s.time.valid = true) : t.time.valid = true := by
  induction h with
  | refl => exact hv
  | tail _ hc ih => exact hc.valid ih

theorem writeChange_changes (s : State) {e : EngineControl} (change : ChangeKind) (reason : ChangeReason)
    (he : s.engine.Sound → e.Sound) (hu : e.state = .unset ↔ s.engine.state = .unset) :
    Changes s (s.writeChange e change reason) := by
  refine .tail (.single ?_) (change_raiseCause _ (c := .freezeChange) rfl)
  refine .engine s _ (fun h => ?_) (.inl hu)
  obtain ⟨h1, h2, h3, h4, h5, h6⟩ := he h
  exact ⟨h1, h2, h3, h4, h5, bump_le h6⟩

theorem engineTick_changes (s : State) : Changes s s.engineTick := by
  unfold State.engineTick
  split
  next hf =>
    split
    next => exact writeChange_changes s _ _ run_sound (by simp [EngineControl.run, hf])
    next h1 =>
      refine .single (.engine s _ (fun h => ?_) (.inl Iff.rfl))
      obtain ⟨ht, hr, h3, h4⟩ := h
      exact ⟨⟨fun _ => hf, fun _ => by have := ht.2 hf; simp only; omega⟩, hr, by simp only; omega, h4⟩
  next => exact .refl

theorem freezeAtRollover_changes (s : State) : Changes s s.freezeAtRollover := by
  unfold State.freezeAtRollover
  split
  next hc =>
    refine writeChange_changes s _ _ (fun h => ?_) (by simp [EngineControl.rolloverFreeze, hc.1])
    obtain ⟨-, -, -, h4, h5, h6⟩ := h
    simp only [EngineControl.Sound, EngineControl.rolloverFreeze, iff_true, ne_eq, reduceCtorEq, not_false_eq_true, h4, h5, h6,
      and_true, true_and]
    omega
  next => exact .refl

/-- The day of a valid clock advances within its range (R29, R30). -/
theorem advanceDay_changes {s : State} (hv : s.time.valid = true) : Changes s s.advanceDay := by
  refine .single (.time s _ (fun h => ?_) fun _ => hv)
  obtain ⟨h1, h2, -, h4, -, h6⟩ := h
  refine ⟨h1, h2, ?_, h4, fun hn => absurd hn (by simp [hv]), h6⟩
  simp only [nextDay, Config.dayNumbers]
  omega

theorem rollover_changes {s : State} (hv : s.time.valid = true) : Changes s s.rollover := by
  refine .trans (.trans (.trans (advanceDay_changes hv) ?_) (.single (change_raiseCause _ rfl))) (freezeAtRollover_changes _)
  unfold State.markAtRollover
  split
  · exact .refl
  · exact .single (.money (.dayMark _ _))

theorem takeHoldTick_changes (s : State) : Changes s s.takeHoldTick := by
  unfold State.takeHoldTick
  split
  · exact .tail (.single (.ticks s _)) (.holdTick _)
  · exact .refl

theorem takeEngineTick_changes (s : State) : Changes s s.takeEngineTick := by
  unfold State.takeEngineTick
  split
  · exact .trans (.single (.ticks s _)) (engineTick_changes _)
  · exact .refl

theorem takeJournalTick_changes (s : State) : Changes s s.takeJournalTick := by
  unfold State.takeJournalTick
  split
  · exact .tail (.single (.ticks s _)) (.journalTick _)
  · exact .refl

theorem advance_sound {t : TimeUnit} (h : t.Sound) : t.advance.Sound := by
  obtain ⟨h1, h2, h3⟩ := h
  unfold TimeUnit.advance
  split
  next => exact ⟨by simp only; omega, h2, h3⟩
  next => exact ⟨Nat.zero_le _, by simp only; split <;> omega, h3⟩

theorem advance_valid (t : TimeUnit) : t.advance.valid = t.valid := by
  unfold TimeUnit.advance
  split <;> rfl

theorem advance_changes (s : State) : Changes s (s.setTime s.time.advance) :=
  .single (.time s _ advance_sound fun h => (advance_valid _).trans h)

theorem valid_of_rolloverNext {t : TimeUnit} (h : t.rolloverNext = true) : t.valid = true := by
  simp only [TimeUnit.rolloverNext, Bool.and_eq_true] at h
  exact h.1.2

/-- One block takes its tick; a rollover still to come finds the clock valid. -/
theorem takeTick_changes {r : State × Bool} (hv : r.2 = true → r.1.time.valid = true) (x : TickTaker) :
    Changes r.1 (takeTick r x).1 ∧ ((takeTick r x).2 = true → (takeTick r x).1.time.valid = true) := by
  have keep : ∀ u, Changes r.1 u → Changes r.1 u ∧ (r.2 = true → u.time.valid = true) :=
    fun u hu => ⟨hu, fun hr => changes_valid hu (hv hr)⟩
  cases x with
  | holdUnit => exact keep _ (takeHoldTick_changes r.1)
  | engineControl => exact keep _ (takeEngineTick_changes r.1)
  | journal => exact keep _ (takeJournalTick_changes r.1)
  | rollover =>
    by_cases hr : r.2 = true
    · simpa [takeTick, hr] using rollover_changes (hv hr)
    · simp [takeTick, hr, Relation.ReflTransGen.refl]

theorem takeTicks_changes (order : List TickTaker) {r : State × Bool} (hv : r.2 = true → r.1.time.valid = true) :
    Changes r.1 (order.foldl takeTick r).1 ∧
      ((order.foldl takeTick r).2 = true → (order.foldl takeTick r).1.time.valid = true) := by
  induction order generalizing r with
  | nil => exact ⟨.refl, hv⟩
  | cons x order ih =>
    obtain ⟨h1, h2⟩ := takeTick_changes hv x
    obtain ⟨h3, h4⟩ := ih h2
    exact ⟨h1.trans h3, h4⟩

theorem tickSupplied_changes (s : State) (order : List TickTaker) : Changes s (s.tickSupplied order) := by
  have hdue : Changes s s.takeDueTicks :=
    ((takeHoldTick_changes s).trans (takeEngineTick_changes _)).trans (takeJournalTick_changes _)
  have hissue : Changes s s.takeDueTicks.issueTicks :=
    .tail (hdue.trans (advance_changes _)) (.ticks _ _)
  obtain ⟨h1, h2⟩ := takeTicks_changes order (r := (s.takeDueTicks.issueTicks, s.takeDueTicks.time.rolloverNext))
    fun hr => (advance_valid _).trans (valid_of_rolloverNext hr)
  unfold State.tickSupplied
  dsimp only
  split
  next hr => exact (hissue.trans h1).trans (rollover_changes (h2 hr))
  next => exact hissue.trans h1

theorem tickOnBattery_changes (s : State) : Changes s s.tickOnBattery := by
  unfold State.tickOnBattery
  dsimp only
  split
  next hr => exact (advance_changes s).trans (advanceDay_changes ((advance_valid _).trans (valid_of_rolloverNext hr)))
  next => exact advance_changes s

/-! ## The office link port -/

/-- The receiver and the flags are written: to SEEKING, or on a rated link. -/
theorem office_receiver_sound {o : OfficePort} (r : OfficeReceiver) (f : LinkFlags) (hr : r = .seeking ∨ o.bitTime ≠ none)
    (h : o.Sound) : { o with receiver := r, flags := f : OfficePort }.Sound := by
  obtain ⟨h1, h2, h3⟩ := h
  refine ⟨h1, fun hn => ⟨hr.resolve_right (not_not.2 hn), (h2 hn).2⟩, h3⟩

/-- What is sent is written while no restart waits: nothing, or an answering break on a rated link. -/
theorem office_transmit_sound {o : OfficePort} {x : OfficeTransmit} (hp : o.restartPending = false)
    (hx : x = .idle ∨ x = .answeringBreak ∧ o.bitTime ≠ none) (h : o.Sound) :
    { o with transmit := x : OfficePort }.Sound := by
  obtain ⟨h1, h2, -, -, -⟩ := h
  refine ⟨h1, fun hn => ⟨(h2 hn).1, ?_⟩, ?_, fun hq => absurd hq (by simp [hp]), fun answer ha => hp⟩
  · obtain rfl | ⟨-, hr⟩ := hx
    · rfl
    · exact absurd hn hr
  · obtain rfl | ⟨rfl, -⟩ := hx <;> simp

theorem takeBreak_sound {o : OfficePort} (periods : Nat) (h : o.Sound) : (o.takeBreak periods).Sound := by
  unfold OfficePort.takeBreak
  split
  next hg =>
    simp only [bitTimeGood, Bool.and_eq_true, decide_eq_true_eq] at hg
    obtain ⟨-, -, -, h4, h5⟩ := h
    refine ⟨fun t ht => by cases ht; exact hg, by simp, ?_, fun hp => ?_, fun answer ha => ?_⟩
    · cases ho : o.transmit <;> simp [OfficeTransmit.answered]
    · cases ho : o.transmit <;> simp [OfficeTransmit.answered, OfficePort.replyPeriod]
    · cases ho : o.transmit with
      | startBreak b => exact h5 b ho
      | idle | reply | answeringBreak => simp [OfficeTransmit.answered, ho] at ha
  next => exact office_receiver_sound _ _ (.inl rfl) h

theorem startBreakEnded_sound {o : OfficePort} (h : o.Sound) :
    { o with transmit := o.transmit.startBreakEnded : OfficePort }.Sound := by
  cases ho : o.transmit with
  | startBreak answer =>
    refine office_transmit_sound (h.2.2.2.2 answer ho) ?_ h
    cases answer with
    | false => exact .inl rfl
    | true =>
      refine .inr ⟨rfl, fun hn => ?_⟩
      have := (h.2.1 hn).2
      simp [OfficePort.replyPeriod, ho] at this
  | idle | reply | answeringBreak => simpa only [OfficeTransmit.startBreakEnded, ← ho] using h

end Sys2Proof.Machine
end

/-! # What every command can do -/

section
namespace Sys2Proof.Machine

/-- A frame or an event that the port ignores leaves the state. -/
theorem event_same (s : State) : Event s s := .changes .refl

theorem officeSeek_event (s : State) : Event s s.officeSeek :=
  .office s _ (office_receiver_sound _ _ (.inl rfl))

theorem abandonOfficeFrame_event {s : State} (h : s.officeReceives = true) : Event s s.abandonOfficeFrame :=
  .office s _ (office_receiver_sound _ _ (.inr ((officeReceives_iff s).1 h).2.1))

/-- An event while a condition holds, and nothing otherwise. -/
theorem event_ite {s t : State} {c : Prop} [Decidable c] (h : c → Event s t) : Event s (if c then t else s) := by
  split
  next hc => exact h hc
  next => exact event_same s

theorem supply_event (s : State) (v : Supply) : Event s (s.setSupply v) := .supply s v s.openChoices

theorem warmStart_event (s : State) (v : Supply) (cause : StartCause) : Event s ((s.setSupply v).warmStart cause) :=
  .warmStart s v s.openChoices cause

/-- The end of the reply period: the warm start that waits, or nothing more to send. -/
theorem endReplyPeriod_event (s : State) : Event s s.endReplyPeriod := by
  unfold State.endReplyPeriod
  split
  next => exact warmStart_event s s.supply .restart
  next hp => exact .office s _ (office_transmit_sound (by simpa using hp) (.inl rfl))

/-- A good office frame is discarded with HANDSHAKE, or taken and answered. -/
theorem takeCommand_event {s : State} {work : State → State × OfficeAnswer} (h : Answering work) :
    Event s (s.takeCommand work) := by
  unfold State.takeCommand
  refine event_ite fun hr => ?_
  split
  next => exact .office s _ (office_receiver_sound _ _ (.inl rfl))
  next => exact .answered _ ((officeReceives_iff s).1 hr) (h _).1

theorem judgeOfficeFrame_event {s : State} (h : s.officeReceives = true) (kind : Byte) (body : List Byte) (check : Byte) :
    Event s (s.judgeOfficeFrame kind body check) := by
  unfold State.judgeOfficeFrame
  split
  · exact abandonOfficeFrame_event h
  split
  · exact .office s _ (office_receiver_sound _ _ (.inl rfl))
  · exact takeCommand_event (commandWork_answers kind body)

theorem releaseReset_event (s : State) (v : Supply) (lowNanoseconds : Nat) :
    Event s ((s.setSupply v).releaseReset lowNanoseconds) := by
  unfold State.releaseReset
  split
  · exact warmStart_event s v .reset
  split
  · exact .warmStart s v (s.openChoices + 1) .reset
  · exact .supply s v (s.openChoices + 1)

/-- A cold start: the return of VDD with the retention marker invalid (R143). -/
def ColdStarts (c : Instr) (s t : State) : Prop :=
  c = .powerReturn ∧ s.supply.retentionValid = false ∧ t = (s.setSupply { s.supply with vdd := true }).coldStart

/-- What a command can do, whatever the state. -/
theorem exec_event (c : Instr) (s : State) : ∃ t, exec c s = .next t ∧ (Event s t ∨ ColdStarts c s t) := by
  have lane : ∀ {form}, laneForm c = some form → ∃ t, exec c s = .next t ∧ (Event s t ∨ ColdStarts c s t) := fun hf => by
    obtain ⟨t, ht, hc⟩ := exec_laneForm_changes hf s
    exact ⟨t, ht, .inl (.changes hc)⟩
  have office : ∀ {form}, officeForm c = some form → ∃ t, exec c s = .next t ∧ (Event s t ∨ ColdStarts c s t) := fun hf =>
    ⟨_, exec_officeForm hf s, .inl (takeCommand_event (commandWork_answers _ _))⟩
  cases c with
  | bal | hold | settle | sale | drop | cash | repeatReply => exact lane rfl
  | unknownRequestKind station kind body =>
    refine ⟨_, rfl, .inl (.changes ?_)⟩
    split
    · exact .refl
    · exact takeRequest_changes fun _ => setLastReply_changes _ _ _
  | enrol | retire | block | unblock | reclass | adjust | purseRead | purseNext | classSet | credit | batchOpen | batchItem
  | batchClose | batchAbort | batchResult | clockSet | rolloverSet | windowSet | stationSet | jnlNext | jnlConfirm | jnlRewind
  | journalSet | go | freeze | thaw | restart | watchSet | attnTake | attnDone | attnEnable | laneRateSet | status
  | statusClear => exact office rfl
  | laneFrameEnd address kind body check =>
    exact ⟨_, rfl, .inl (event_ite fun _ => .changes (judgeLaneFrame_changes s address kind body check))⟩
  | parityRefusal =>
    exact ⟨_, rfl, .inl (event_ite fun _ => .changes ((laneFault_changes s _).trans (setReceiver_changes _ (by simp) (by simp))))⟩
  | laneLengthAbandon => exact ⟨_, rfl, .inl (event_ite fun _ => .changes (abandonLaneLength_changes s))⟩
  | laneFrameTimeout =>
    exact ⟨_, rfl, .inl (event_ite fun _ => .changes ((laneFault_changes s _).trans (enterIdle_changes _)))⟩
  | brokenWaitEnd => exact ⟨_, rfl, .inl (event_ite fun _ => .changes (enterIdle_changes s))⟩
  | turnaroundEnd => exact ⟨_, rfl, .inl (event_ite fun _ => .changes (endTurnaround_changes s))⟩
  | replyPreempt => exact ⟨_, rfl, .inl (event_ite fun _ => .changes (preemptReply_changes s))⟩
  | replyCollision => exact ⟨_, rfl, .inl (event_ite fun _ => .changes (collideReply_changes s))⟩
  | replyComplete => exact ⟨_, rfl, .inl (event_ite fun _ => .changes (completeReply_changes s))⟩
  | laneFrameStart =>
    exact ⟨_, rfl, .inl (event_ite fun _ => .changes (setReceiver_changes s (by simp) (by simp)))⟩
  | restartMarkEnd => exact ⟨_, rfl, .inl (event_ite fun _ => .changes (enterIdle_changes s))⟩
  | breakRisingEdge periods => exact ⟨_, rfl, .inl (event_ite fun _ => .office s _ (takeBreak_sound periods))⟩
  | ratedBreakDetect => exact ⟨_, rfl, .inl (event_ite fun _ => officeSeek_event s)⟩
  | answeringBreakEnd => exact ⟨_, rfl, .inl (event_ite fun _ => endReplyPeriod_event s)⟩
  | officeReplyEnd => exact ⟨_, rfl, .inl (event_ite fun _ => endReplyPeriod_event s)⟩
  | restartWarmStart => exact ⟨_, rfl, .inl (event_ite fun _ => warmStart_event s s.supply .restart)⟩
  | startBreakEnd => exact ⟨_, rfl, .inl (event_ite fun _ => .office s _ startBreakEnded_sound)⟩
  | framingError => exact ⟨_, rfl, .inl (event_ite abandonOfficeFrame_event)⟩
  | officeLengthAbandon => exact ⟨_, rfl, .inl (event_ite abandonOfficeFrame_event)⟩
  | resyncEnd => exact ⟨_, rfl, .inl (event_ite fun _ => officeSeek_event s)⟩
  | officeFrameTimeout =>
    exact ⟨_, rfl, .inl (event_ite fun _ => .office s _ (office_receiver_sound _ _ (.inl rfl)))⟩
  | officeFrameStart =>
    exact ⟨_, rfl, .inl (event_ite fun h =>
      .office s _ (office_receiver_sound _ _ (.inr ((officeReceives_iff s).1 h.1).2.1)))⟩
  | officeFrameEnd kind body check =>
    exact ⟨_, rfl, .inl (event_ite fun h => judgeOfficeFrame_event h kind body check)⟩
  | secondsTick order =>
    refine ⟨_, rfl, .inl (.changes ?_)⟩
    split
    · exact tickSupplied_changes s order
    · exact tickOnBattery_changes s
  | holdExpiry => exact ⟨_, rfl, .inl (event_ite fun _ => .changes (takeHoldTick_changes s))⟩
  | freezeLimitExpiry => exact ⟨_, rfl, .inl (event_ite fun _ => .changes (takeEngineTick_changes s))⟩
  | overdueBegin => exact ⟨_, rfl, .inl (event_ite fun _ => .changes (takeJournalTick_changes s))⟩
  | resetAssert => exact ⟨_, rfl, .inl (supply_event s _)⟩
  | powerLoss => exact ⟨_, rfl, .inl (supply_event s _)⟩
  | retentionLoss =>
    refine ⟨_, rfl, .inl ?_⟩
    split
    · exact event_same s
    · exact supply_event s _
  | resetRelease low =>
    refine ⟨_, rfl, .inl (event_ite fun _ => ?_)⟩
    dsimp only
    split
    · exact releaseReset_event s _ low
    · exact supply_event s _
  | powerReturn =>
    refine ⟨_, rfl, ?_⟩
    split
    next => exact .inl (event_same s)
    next =>
      dsimp only
      split
      next => exact .inl (warmStart_event s _ .power)
      next hr => exact .inr ⟨rfl, by simpa using hr, rfl⟩

/-- Settles O2: every command does an event or a cold start, and none of them touches the queue. -/
theorem everyCommandCompletes : Obligations.EveryCommandCompletes := by
  intro c s
  obtain ⟨t, ht, h | ⟨-, -, rfl⟩⟩ := exec_event c s
  · exact ⟨t, ht, h.pending⟩
  · exact ⟨_, ht, rfl⟩

/-- What a step can do: nothing on an empty queue, and otherwise an event or a cold start with the queue's rest. -/
theorem step_cases {s t : State} (h : step s = .next t) :
    t = s ∨ ∃ rest, Event (s.setPending rest) t ∨ ∃ v, t = ((s.setPending rest).setSupply v).coldStart := by
  unfold step at h
  split at h
  next => cases h; exact .inl rfl
  next c rest _ =>
    obtain ⟨u, hu, he⟩ := exec_event c (s.setPending rest)
    obtain rfl : u = t := Host.Outcome.next.inj (hu.symm.trans h)
    refine .inr ⟨rest, he.imp_right ?_⟩
    rintro ⟨-, -, hc⟩
    exact ⟨_, hc⟩

/-- A predicate of the blocks: it does not depend on the office port, the supplies, the count of open choices and the queue. -/
def BlocksOnly (P : State → Prop) : Prop :=
  ∀ (s : State) (o : OfficePort) (v : Supply) (n : Nat) (q : List Instr),
    P s → P { s with office := o, supply := v, openChoices := n, pending := q }

theorem changes_keep {P : State → Prop} (hc : ∀ s t, Change s t → P s → P t) {s t : State} (h : Changes s t) (hs : P s) : P t := by
  induction h with
  | refl => exact hs
  | tail _ hch ih => exact hc _ _ hch ih

/-- A predicate of the blocks is an invariant when every change, a confirmation, a warm start and a cold start keep it. -/
theorem step_keeps {P : State → Prop} (hb : BlocksOnly P) (hc : ∀ s t, Change s t → P s → P t)
    (hconfirm : ∀ (s : State) (seq k : Nat), s.journal.confirmCount seq = some k → P s →
      P (s.lowerJournal (s.journal.confirm k)))
    (hwarm : ∀ s cause, P s → P (s.warmStart cause)) (hcold : ∀ s : State, P s.coldStart) {s t : State} (hs : P s)
    (h : step s = .next t) : P t := by
  obtain rfl | ⟨rest, he | ⟨v, rfl⟩⟩ := step_cases h
  · exact hs
  · have hr : P (s.setPending rest) := hb s s.office s.supply s.openChoices rest hs
    generalize s.setPending rest = u at he hr
    cases he with
    | changes h => exact changes_keep hc h hr
    | answered a _ hw =>
      have hseek : P u.officeSeek := hb u _ u.supply u.openChoices u.pending hr
      have hdone : ∀ w : State, P w → P (w.buildReply a) := fun w hw => hb w _ w.supply w.openChoices w.pending hw
      refine hdone _ ?_
      cases hw with
      | changes h => exact changes_keep hc h hseek
      | confirm seq k hk => exact hconfirm _ seq k hk hseek
      | restart => exact hb u _ u.supply u.openChoices u.pending hr
    | office o _ => exact hb u o u.supply u.openChoices u.pending hr
    | supply v n => exact hb u u.office v n u.pending hr
    | warmStart v n cause => exact hwarm _ cause (hb u u.office v n u.pending hr)
  · exact hcold _

end Sys2Proof.Machine
end

/-! # The invariants of the ports, the batch, the clock and the engine (O57, O56, O54) -/

section
namespace Sys2Proof.Machine

/-! ## What a warm start leaves in the blocks that have no record to write -/

/-- The catch-up DAY_MARK and the attention unit aside, a warm start is that of every block. -/
theorem warmStart_footprint (s : State) (cause : StartCause) :
    ∃ p j a, s.warmStart cause = { s.warmBlocks cause with purses := p, journal := j, attention := a } := by
  unfold State.warmStart State.catchUp
  dsimp only
  split
  · exact ⟨_, _, _, rfl⟩
  · rw [writeDayMark_eq]
    unfold State.dayMarked
    split <;> exact ⟨_, _, _, rfl⟩

/-! ## The ports -/

theorem Footprint.portsSound {s t : State} (h : Footprint s t) (hs : s.PortsSound) : t.PortsSound := by
  rw [portsSound_iff] at hs ⊢
  obtain ⟨hp, ho, hl⟩ := hs
  cases h with
  | lane l hk => exact ⟨hp, ho, hk hl⟩
  | port p hk => exact ⟨hk hp, ho, hl⟩
  | stores | time | batch | engine | ticks => exact ⟨hp, ho, hl⟩

theorem changes_portsSound {s t : State} (h : Changes s t) (hs : s.PortsSound) : t.PortsSound :=
  changes_keep (fun _ _ hc => hc.footprint.portsSound) h hs

/-- The reply being sent on a rated link leaves the port sound, whether or not a restart waits for its end. -/
theorem office_reply_sound {o : OfficePort} (a : OfficeReply) (f : LinkFlags) (b : Bool) (hr : o.bitTime ≠ none) (h : o.Sound) :
    { o with transmit := .reply a, flags := f, restartPending := b : OfficePort }.Sound := by
  refine ⟨h.1, fun hn => absurd hn hr, ?_, fun _ => rfl, ?_⟩
  · exact fun hx => by cases hx
  · exact fun _ hx => by cases hx

theorem officeSeek_portsSound {s : State} (hs : s.PortsSound) : s.officeSeek.PortsSound := by
  rw [portsSound_iff] at hs ⊢
  exact ⟨hs.1, office_receiver_sound _ _ (.inl rfl) hs.2.1, hs.2.2⟩

/-- A command's work leaves the lane port and the lane unit sound, and the office port as it was but for a restart that waits. -/
theorem Work.ports {s t : State} (h : Work s t) (hs : s.PortsSound) :
    t.port.Sound ∧ t.lane.Sound ∧ ∃ b, t.office = { s.office with restartPending := b } := by
  cases h with
  | changes h =>
    obtain ⟨hp, -, hl⟩ := (portsSound_iff t).1 (changes_portsSound h hs)
    exact ⟨hp, hl, _, (changes_sameOutside h).1⟩
  | confirm seq k =>
    have hf := lowerJournal_footprint s (s.journal.confirm k)
    obtain ⟨hp, -, hl⟩ := (portsSound_iff _).1 (hf.portsSound hs)
    exact ⟨hp, hl, _, hf.sameOutside.1⟩
  | restart =>
    obtain ⟨hp, -, hl⟩ := (portsSound_iff s).1 hs
    exact ⟨hp, hl, true, rfl⟩

theorem officeStarted_sound : OfficePort.started.Sound :=
  ⟨by simp [OfficePort.started], fun _ => ⟨rfl, rfl⟩, fun _ => rfl, by simp [OfficePort.started], fun _ _ => rfl⟩

theorem lanePortCold_sound {rate : Nat} (h : laneRateGood rate) : { LanePort.cold with rate := rate : LanePort }.Sound :=
  ⟨h, by simp [LanePort.cold], by simp [LanePort.cold], by simp [LanePort.cold], by simp [LanePort.cold],
    by simp [LanePort.cold, LaneCounters.Sound, LaneCounters.zero]⟩

theorem laneWarm_sound {l : LaneUnit} (h : l.Sound) : l.warm.Sound :=
  ⟨mapEntries_watch_sound (fun _ => unlatched_sound) h.1, Nat.zero_le _, Nat.zero_le _⟩

theorem watchUnused_sound : WatchEntry.unused.Sound :=
  ⟨Nat.zero_le _, Nat.zero_le _, Nat.zero_le _, fun _ => rfl⟩

theorem laneCold_sound : LaneUnit.cold.Sound := by
  refine ⟨fun w hw => ?_, Nat.zero_le _, Nat.zero_le _⟩
  rw [LaneUnit.cold, Vector.toList_replicate] at hw
  exact (List.eq_of_mem_replicate hw) ▸ watchUnused_sound

theorem reset_portsSound : State.reset.PortsSound :=
  (portsSound_iff _).2 ⟨lanePortCold_sound (.inr (.inl rfl)), officeStarted_sound, laneCold_sound⟩

theorem Event.portsSound {s t : State} (h : Event s t) (hs : s.PortsSound) : t.PortsSound := by
  cases h with
  | changes h => exact changes_portsSound h hs
  | @answered u a hr hw =>
    obtain ⟨hp, hl, b, ho⟩ := hw.ports (officeSeek_portsSound hs)
    refine (portsSound_iff _).2 ⟨hp, ?_, hl⟩
    have hseek := ((portsSound_iff _).1 (officeSeek_portsSound hs)).2.1
    rw [State.buildReply, ho]
    exact office_reply_sound (o := s.officeSeek.office) _ _ b hr.2.1 hseek
  | office o hk =>
    rw [portsSound_iff] at hs ⊢
    exact ⟨hs.1, hk hs.2.1, hs.2.2⟩
  | supply => exact hs
  | warmStart v n cause =>
    obtain ⟨p, j, a, he⟩ := warmStart_footprint ((s.setSupply v).setOpenChoices n) cause
    rw [he]
    rw [portsSound_iff] at hs ⊢
    exact ⟨lanePortCold_sound hs.1.1, officeStarted_sound, laneWarm_sound hs.2.2⟩

/-- Settles O57: the changes keep the lane port and the lane unit sound, and every write of the office port keeps it sound. -/
theorem portsInvariant : Obligations.PortsInvariant := by
  intro s t hs h
  obtain rfl | ⟨rest, he | ⟨v, rfl⟩⟩ := step_cases h
  · exact hs
  · exact he.portsSound hs
  · exact reset_portsSound

/-! ## The batch -/

theorem Footprint.batchSound {s t : State} (h : Footprint s t) (hs : s.BatchSound) : t.BatchSound := by
  cases h with
  | batch c hk => exact hk hs
  | stores | time | lane | port | engine | ticks => exact hs

theorem creditCold_sound {s : State} (h : s.credit = CreditUnit.cold) : s.BatchSound := by
  unfold State.BatchSound
  rw [h]
  simp [CreditUnit.cold, BatchSummary.zero]

/-- Settles O56: only the batch commands write the batch, and each keeps it sound; any start empties it. -/
theorem batchInvariant : Obligations.BatchInvariant := by
  refine fun s t hs h => step_keeps (P := State.BatchSound) (fun _ _ _ _ _ hs => hs)
    (fun _ _ hc => hc.footprint.batchSound) (fun s _ k _ => (lowerJournal_footprint s _).batchSound) (fun s cause _ => ?_)
    (fun s => creditCold_sound rfl) hs h
  obtain ⟨p, j, a, he⟩ := warmStart_footprint s cause
  rw [he]
  exact creditCold_sound rfl

end Sys2Proof.Machine
end

/-! # The purse table under the changes -/

section
namespace Sys2Proof.Machine

/-- Two records of one card with the same money and the same stamps: they differ in state, class and hold station alone. -/
def Purse.SameMoney (p q : Purse) : Prop :=
  q.card = p.card ∧ q.balance = p.balance ∧ q.daySpend = p.daySpend ∧ q.daySpendStamp = p.daySpendStamp ∧
    q.windowUsed = p.windowUsed ∧ q.occurrence = p.occurrence

theorem Purse.SameMoney.refl (p : Purse) : p.SameMoney p := ⟨rfl, rfl, rfl, rfl, rfl, rfl⟩

theorem Purse.SameMoney.trans {p q r : Purse} (h : p.SameMoney q) (k : q.SameMoney r) : p.SameMoney r := by
  obtain ⟨h1, h2, h3, h4, h5, h6⟩ := h
  obtain ⟨k1, k2, k3, k4, k5, k6⟩ := k
  exact ⟨k1.trans h1, k2.trans h2, k3.trans h3, k4.trans h4, k5.trans h5, k6.trans h6⟩

/-- The purse store changed in the records' states, classes and hold stations alone, and no record appended. -/
def State.Quiet (s t : State) : Prop :=
  (∃ f : Purse → Purse, (∀ q : Purse, q.SameMoney (f q)) ∧ t.purses = { s.purses with purses := s.purses.purses.map f }) ∧
    t.journal.records = s.journal.records ∧ t.journal.nextSeq = s.journal.nextSeq

theorem State.Quiet.of_eq {s t : State} (hp : t.purses = s.purses) (hr : t.journal.records = s.journal.records)
    (hn : t.journal.nextSeq = s.journal.nextSeq) : s.Quiet t :=
  ⟨⟨id, .refl, by rw [hp, List.map_id]⟩, hr, hn⟩

theorem State.Quiet.trans {s t u : State} (h : s.Quiet t) (k : t.Quiet u) : s.Quiet u := by
  obtain ⟨⟨f, hf, hp⟩, hr, hn⟩ := h
  obtain ⟨⟨g, hg, hq⟩, hr', hn'⟩ := k
  exact ⟨⟨g ∘ f, fun q => (hf q).trans (hg _), by rw [hq, hp, List.map_map]⟩, hr'.trans hr, hn'.trans hn⟩

/-- A quiet change of one card's record. -/
theorem modifyPurse_quiet (s : State) (card : Nat) {f : Purse → Purse} (hf : ∀ q : Purse, q.SameMoney (f q)) :
    s.Quiet (s.modifyPurse card f) := by
  refine ⟨⟨fun q => if q.card = card then f q else q, fun q => ?_, rfl⟩, rfl, rfl⟩
  by_cases hc : q.card = card
  · simpa only [if_pos hc] using hf q
  · simpa only [if_neg hc] using Purse.SameMoney.refl q

theorem removeHold_quiet (s : State) (card station : Nat) : s.Quiet (s.removeHold card station) :=
  .trans (t := s.setHolds _) (.of_eq rfl rfl rfl) (modifyPurse_quiet _ card fun _ => ⟨rfl, rfl, rfl, rfl, rfl, rfl⟩)

theorem removeHolds_quiet (l : List Hold) (s : State) : s.Quiet (s.removeHolds l) := by
  induction l generalizing s with
  | nil => exact .of_eq rfl rfl rfl
  | cons h l ih => exact (removeHold_quiet s _ _).trans (ih _)

theorem expireHolds_quiet (l : List Hold) (s : State) : s.Quiet (s.expireHolds l) := by
  induction l generalizing s with
  | nil => exact .of_eq rfl rfl rfl
  | cons h l ih =>
    have hone : s.Quiet (s.expireHold h) := (removeHold_quiet s h.card h.station).trans (.of_eq rfl rfl rfl)
    exact hone.trans (ih _)

/-- A change is one of the money or a quiet one. -/
theorem Change.money_or_quiet {s t : State} (h : Change s t) : Money s t ∨ s.Quiet t := by
  cases h with
  | money h => exact .inl h
  | block p =>
    right
    unfold State.blockPurse
    split
    · exact .of_eq rfl rfl rfl
    have hstate : s.Quiet (s.setPurseState p.card .blocked) := modifyPurse_quiet s _ fun _ => ⟨rfl, rfl, rfl, rfl, rfl, rfl⟩
    split
    · exact hstate
    · exact hstate.trans (removeHold_quiet _ _ _)
  | unblock | reclass => exact .inr (modifyPurse_quiet s _ fun _ => ⟨rfl, rfl, rfl, rfl, rfl, rfl⟩)
  | release station e =>
    have hset : s.Quiet (s.setStation station e) := .of_eq rfl rfl rfl
    have hrel : (s.setStation station e).Quiet ((s.setStation station e).releaseStation station) :=
      (removeHolds_quiet _ _).trans (.of_eq rfl rfl rfl)
    exact .inr (hset.trans hrel)
  | openHold p station g =>
    right
    have hset : ∀ h card st, s.Quiet ((s.setHolds h).setHoldStation card st) := fun h card st =>
      .trans (t := s.setHolds h) (.of_eq rfl rfl rfl) (modifyPurse_quiet _ card fun _ => ⟨rfl, rfl, rfl, rfl, rfl, rfl⟩)
    unfold State.openHold
    dsimp only
    split
    · exact (hset _ _ _).trans (.of_eq rfl rfl rfl)
    · exact hset _ _ _
  | removeHold => exact .inr (removeHold_quiet s _ _)
  | holdTick =>
    right
    unfold State.holdTick
    split
    · exact .trans (t := s.countHolds) (.of_eq rfl rfl rfl) (expireHolds_quiet _ _)
    · exact .of_eq rfl rfl rfl
  | settings mark reload =>
    rw [reportBegin_eq, lowerJournal_eq]
    exact .inr (.of_eq rfl rfl rfl)
  | journalTick =>
    right
    unfold State.journalTick
    split
    · rw [reportBegin_eq]; exact .of_eq rfl rfl rfl
    · exact .of_eq rfl rfl rfl
  | time | station | refreshHold | forget | batch | cursor | lane | port | engine | attention | ticks =>
    exact .inr (.of_eq rfl rfl rfl)

theorem warmBlocks_quiet (s : State) (cause : StartCause) : s.Quiet (s.warmBlocks cause) :=
  ⟨⟨fun q => { q with holdStation := none }, fun _ => ⟨rfl, rfl, rfl, rfl, rfl, rfl⟩, rfl⟩, rfl, rfl⟩

/-- A warm start is quiet but for the catch-up DAY_MARK. -/
theorem warmStart_steps (s : State) (cause : StartCause) :
    ∃ u v, s.Quiet u ∧ u.time = s.time ∧ (v = u ∨ Money u v) ∧ v.Quiet (s.warmStart cause) := by
  refine ⟨s.warmBlocks cause, (s.warmBlocks cause).catchUp, warmBlocks_quiet s cause, rfl, ?_, .of_eq rfl rfl rfl⟩
  unfold State.catchUp
  split
  · exact .inl rfl
  · exact .inr (.dayMark _ _)

/-- A predicate of the purse store that quiet changes and changes of the money keep is kept by every change and by a warm
start. -/
theorem warmStart_keeps {P : State → Prop} (hq : ∀ s t : State, s.Quiet t → P s → P t)
    (hm : ∀ s t : State, Money s t → P s → P t) (s : State) (cause : StartCause) (hs : P s) : P (s.warmStart cause) := by
  obtain ⟨u, v, h1, -, h2, h3⟩ := warmStart_steps s cause
  refine hq _ _ h3 ?_
  obtain rfl | h2 := h2
  · exact hq _ _ h1 hs
  · exact hm _ _ h2 (hq _ _ h1 hs)

/-! ## The stamps and the clock -/

/-- The clauses of `State.ClockEngineSound` about the purse store: the days and the windows it names exist. -/
def PurseStore.StampsSound (b : PurseStore) : Prop :=
  b.firstDay ≤ 65535 ∧ ∀ p ∈ b.purses, (∀ d, p.daySpendStamp = some d → d ≤ 65535) ∧
    (∀ o, p.occurrence = some o → o.1 ≤ 65535 ∧ o.2 ≤ 5)

theorem State.Quiet.stampsSound {s t : State} (h : s.Quiet t) (hs : s.purses.StampsSound) : t.purses.StampsSound := by
  obtain ⟨⟨f, hf, hp⟩, -⟩ := h
  rw [hp]
  refine ⟨hs.1, fun p hm => ?_⟩
  obtain ⟨q, hq, rfl⟩ := List.mem_map.1 hm
  obtain ⟨-, -, -, hstamp, -, hocc⟩ := hf q
  rw [hstamp, hocc]
  exact hs.2 q hq

theorem appendRecord_purses (s : State) (source : Nat) (body : RecordBody) :
    (s.appendRecord source body).purses = s.purses := by
  rw [appendRecord_eq]
  rfl

theorem mem_insertPurse {p q : Purse} {l : List Purse} : q ∈ insertPurse p l ↔ q = p ∨ q ∈ l := by
  induction l with
  | nil => simp [insertPurse]
  | cons a l ih =>
    unfold insertPurse
    split
    · simp
    · simp only [List.mem_cons, ih]
      tauto

/-- The records of a changed card keep what the change keeps. -/
theorem modifyPurse_forall {P : Purse → Prop} {s : State} {card : Nat} {f : Purse → Purse}
    (hf : ∀ q ∈ s.purses.purses, q.card = card → P q → P (f q)) (h : ∀ q ∈ s.purses.purses, P q) :
    ∀ q ∈ (s.modifyPurse card f).purses.purses, P q := by
  intro q hq
  obtain ⟨r, hr, rfl⟩ := List.mem_map.1 hq
  split
  next hc => exact hf r hr hc (h r hr)
  next => exact h r hr

/-- The window found is one of the six. -/
theorem windowFound_lt {t : TimeUnit} {w : Nat} {b : Bool} (h : t.windowFound = some (w, b)) : w < 6 := by
  unfold TimeUnit.windowFound at h
  obtain ⟨e, he, hv⟩ := Option.map_eq_some_iff.1 h
  have hm := List.snd_lt_of_mem_zipIdx (List.mem_of_find?_eq_some he)
  cases hv
  simpa using hm

theorem eligibleWindow_lt {t : TimeUnit} {c : ClassRecord} {w : Nat} (h : t.eligibleWindow c = some w) : w < 6 := by
  unfold TimeUnit.eligibleWindow at h
  split at h
  next v hf =>
    split at h
    · cases h; exact windowFound_lt hf
    · cases h
  · cases h
  · cases h

/-- A charged record carries the current day and the window of the charge (R52). -/
theorem charged_stamps {s : State} (hd : s.time.day ≤ 65535) (p q : Purse) (gross : Nat)
    (hs : (∀ d, q.daySpendStamp = some d → d ≤ 65535) ∧ (∀ o, q.occurrence = some o → o.1 ≤ 65535 ∧ o.2 ≤ 5)) :
    (∀ d, (q.charged (s.chargeOf p gross) s.time.day).daySpendStamp = some d → d ≤ 65535) ∧
      (∀ o, (q.charged (s.chargeOf p gross) s.time.day).occurrence = some o → o.1 ≤ 65535 ∧ o.2 ≤ 5) := by
  refine ⟨fun d h => by cases h; exact hd, fun o h => ?_⟩
  unfold Purse.charged at h
  dsimp only at h
  split at h
  next w hw =>
    cases h
    exact ⟨hd, Nat.le_of_lt_succ (eligibleWindow_lt hw)⟩
  next => exact hs.2 o h

theorem Money.stampsSound {s t : State} (h : Money s t) (hd : s.time.day ≤ 65535) (hs : s.purses.StampsSound) :
    t.purses.StampsSound := by
  obtain ⟨hf, hp⟩ := hs
  cases h with
  | enrol card cls opening =>
    rw [appendRecord_purses]
    refine ⟨hf, fun p hm => ?_⟩
    rcases mem_insertPurse.1 hm with rfl | hm
    · simp [Purse.enrolled]
    · exact hp p hm
  | retire p =>
    rw [appendRecord_purses]
    exact ⟨hf, fun q hm => hp q (List.mem_filter.1 hm).1⟩
  | adjust p amount =>
    rw [appendRecord_purses]
    exact ⟨hf, modifyPurse_forall (fun _ _ _ h => h) hp⟩
  | credit p amount source body =>
    rw [State.applyCredit, appendRecord_purses]
    exact ⟨hf, modifyPurse_forall (fun _ _ _ h => h) hp⟩
  | charge p gross kept station =>
    rw [State.applyCharge, appendRecord_purses]
    exact ⟨hf, modifyPurse_forall (fun q _ _ h => charged_stamps hd p q gross h) hp⟩
  | dayMark d =>
    unfold State.writeDayMark
    split
    · rw [State.resetTotals, appendRecord_purses, appendRecord_eq]
      exact ⟨hd, hp⟩
    · exact ⟨hf, hp⟩
  | classSet => exact ⟨hf, hp⟩

/-- The clauses of `State.ClockEngineSound` together. -/
theorem clockEngineSound_iff_stamps (s : State) :
    s.ClockEngineSound ↔ s.time.Sound ∧ s.purses.StampsSound ∧ (s.engine.state ≠ .unset → s.time.valid = true) ∧
      s.engine.Sound := by
  rw [clockEngineSound_iff, PurseStore.StampsSound, and_assoc]

theorem Change.clockEngineSound {s t : State} (h : Change s t) (hs : s.ClockEngineSound) : t.ClockEngineSound := by
  rw [clockEngineSound_iff_stamps] at hs ⊢
  obtain ⟨ht, hp, hv, he⟩ := hs
  have hp' : t.purses.StampsSound :=
    h.money_or_quiet.elim (fun hm => hm.stampsSound ht.2.2.1 hp) fun hq => hq.stampsSound hp
  cases h.footprint with
  | time x hx hxv => exact ⟨hx ht, hp', fun hu => hxv (hv hu), he⟩
  | engine e hx hu =>
    refine ⟨ht, hp', fun hne => ?_, hx he⟩
    rcases hu with hu | ⟨-, hvalid⟩
    · exact hv (mt hu.2 hne)
    · exact hvalid
  | stores | batch | lane | port | ticks => exact ⟨ht, hp', hv, he⟩

theorem engineWarm_sound {e : EngineControl} (valid : Bool) (cause : StartCause) (h : e.Sound) : (e.warm valid cause).Sound := by
  obtain ⟨-, -, -, h4, h5, -⟩ := h
  refine ⟨?_, ?_, Nat.zero_le _, h4, h5, Nat.zero_le _⟩ <;>
    cases valid <;> simp [EngineControl.warm, EngineControl.cold]

theorem warmStart_clockEngineSound {s : State} (cause : StartCause) (hs : s.ClockEngineSound) :
    (s.warmStart cause).ClockEngineSound := by
  rw [clockEngineSound_iff_stamps] at hs ⊢
  obtain ⟨ht, hp, -, he⟩ := hs
  have hp' : (s.warmStart cause).purses.StampsSound := by
    obtain ⟨u, v, h1, htime, h2, h3⟩ := warmStart_steps s cause
    refine h3.stampsSound ?_
    obtain rfl | h2 := h2
    · exact h1.stampsSound hp
    · exact h2.stampsSound (by rw [htime]; exact ht.2.2.1) (h1.stampsSound hp)
  obtain ⟨p, j, a, hw⟩ := warmStart_footprint s cause
  rw [hw] at hp' ⊢
  refine ⟨ht, hp', fun hne => ?_, engineWarm_sound _ _ he⟩
  by_contra hv
  exact hne (if_neg hv)

theorem reset_clockEngineSound : State.reset.ClockEngineSound := by
  have hw : ∀ w ∈ TimeUnit.cold.windows.toList, w.used = false → w = Window.unused := by
    intro w hw _
    rw [TimeUnit.cold, Vector.toList_replicate] at hw
    exact List.eq_of_mem_replicate hw
  rw [clockEngineSound_iff_stamps]
  exact ⟨⟨by decide, by decide, by decide, by decide, fun _ => rfl, by decide, hw⟩,
    ⟨by decide, fun p hp => by cases hp⟩, fun h => absurd rfl h,
    ⟨by decide, by decide, by decide, by decide, by decide, by decide⟩⟩

/-- Settles O54: the changes of the purse store keep its stamps, and the writes of the clock and of the engine keep each sound
and the engine out of UNSET with a valid clock alone. -/
theorem clockEngineInvariant : Obligations.ClockEngineInvariant := by
  refine fun s t hs h => step_keeps (P := State.ClockEngineSound) (fun _ _ _ _ _ hs => hs)
    (fun _ _ => Change.clockEngineSound) (fun s _ k _ hs => ?_) (fun _ => warmStart_clockEngineSound)
    (fun _ => reset_clockEngineSound) hs h
  rw [lowerJournal_eq]
  exact hs

end Sys2Proof.Machine
end

/-! # The purse invariant (O51) -/

section
namespace Sys2Proof.Machine

/-! ## Sums and orders of purse tables -/

theorem insertPurse_length (p : Purse) (l : List Purse) : (insertPurse p l).length = l.length + 1 := by
  induction l with
  | nil => rfl
  | cons q l ih =>
    unfold insertPurse
    split
    · rfl
    · rw [List.length_cons, ih, List.length_cons]

theorem insertPurse_balances (p : Purse) (l : List Purse) :
    ((insertPurse p l).map Purse.balance).sum = p.balance + (l.map Purse.balance).sum := by
  induction l with
  | nil => rfl
  | cons q l ih =>
    unfold insertPurse
    split
    · rfl
    · rw [List.map_cons, List.sum_cons, ih, List.map_cons, List.sum_cons]
      omega

/-- A record put at its place keeps the table in card order (R1). -/
theorem insertPurse_ordered {p : Purse} {l : List Purse} (h : l.Pairwise (fun a b => a.card < b.card))
    (hn : ∀ q ∈ l, q.card ≠ p.card) : (insertPurse p l).Pairwise (fun a b => a.card < b.card) := by
  induction l with
  | nil => exact List.pairwise_singleton _ _
  | cons q l ih =>
    obtain ⟨hq, hl⟩ := List.pairwise_cons.1 h
    unfold insertPurse
    split
    next hlt =>
      refine List.pairwise_cons.2 ⟨fun r hr => ?_, h⟩
      rcases List.mem_cons.1 hr with rfl | hr
      · exact hlt
      · exact hlt.trans (hq r hr)
    next hge =>
      refine List.pairwise_cons.2 ⟨fun r hr => ?_, ih hl fun r hr => hn r (List.mem_cons_of_mem _ hr)⟩
      rcases mem_insertPurse.1 hr with rfl | hr
      · have := hn q (List.mem_cons_self ..)
        omega
      · exact hq r hr

/-- The balances without one card's record. -/
theorem filter_balances {l : List Purse} (h : l.Pairwise (fun a b => a.card < b.card)) {p : Purse} (hp : p ∈ l) :
    ((l.filter (fun q => !(q.card == p.card))).map Purse.balance).sum = (l.map Purse.balance).sum - p.balance := by
  induction l with
  | nil => cases hp
  | cons q l ih =>
    obtain ⟨hq, hl⟩ := List.pairwise_cons.1 h
    rcases List.mem_cons.1 hp with rfl | hp
    · have hrest : l.filter (fun q => !(q.card == p.card)) = l :=
        List.filter_eq_self.2 fun r hr => by have := hq r hr; simp; omega
      rw [List.filter_cons_of_neg (by simp), hrest, List.map_cons, List.sum_cons]
      omega
    · have hne := hq p hp
      rw [List.filter_cons_of_pos (by simp; omega), List.map_cons, List.sum_cons, ih hl hp, List.map_cons, List.sum_cons]
      omega

/-- The balances with one card's record changed. -/
theorem modify_balances {l : List Purse} (h : l.Pairwise (fun a b => a.card < b.card)) {p : Purse} (hp : p ∈ l)
    (f : Purse → Purse) :
    ((l.map (fun q => if q.card = p.card then f q else q)).map Purse.balance).sum =
      (l.map Purse.balance).sum + ((f p).balance - p.balance) := by
  induction l with
  | nil => cases hp
  | cons q l ih =>
    obtain ⟨hq, hl⟩ := List.pairwise_cons.1 h
    rcases List.mem_cons.1 hp with rfl | hp
    · have hrest : l.map (fun q => if q.card = p.card then f q else q) = l := by
        conv_rhs => rw [← List.map_id l]
        exact List.map_congr_left fun r hr => if_neg (by have := hq r hr; omega)
      rw [List.map_cons, hrest, if_pos rfl, List.map_cons, List.sum_cons, List.map_cons, List.sum_cons]
      omega
    · have hne := hq p hp
      rw [List.map_cons, if_neg (by omega), List.map_cons, List.sum_cons, ih hl hp, List.map_cons, List.sum_cons]
      omega

/-! ## The purse store -/

/-- A record is in range (R2, R3). -/
def Purse.Sound (p : Purse) : Prop :=
  1 ≤ p.card ∧ p.card ≤ 99999999 ∧ -20000 ≤ p.balance ∧ p.balance ≤ 999999 ∧ p.daySpend ≤ 200000 ∧ p.windowUsed ≤ 50000

/-- A class record is in range (R8). -/
def ClassRecord.Sound (c : ClassRecord) : Prop :=
  c.rate ≤ 1000 ∧ c.cap ≤ 50000 ∧ -20000 ≤ c.floor ∧ c.floor ≤ 0 ∧ c.dayLimit ≤ 200000 ∧ c.holdCeiling ≤ 99999

/-- `State.PursesSound` as a predicate of the purse store. -/
def PurseStore.Sound (b : PurseStore) : Prop :=
  b.purses.Pairwise (fun p q => p.card < q.card) ∧ b.purses.length ≤ 4096 ∧ (∀ p ∈ b.purses, p.Sound) ∧
    (∀ c ∈ b.classes.toList, c.Sound) ∧ b.floatTotal = (b.purses.map Purse.balance).sum ∧
    b.debitTotal ≤ 4294967295 ∧ b.subsidyTotal ≤ 4294967295 ∧ b.creditTotal ≤ 4294967295

theorem pursesSound_iff (s : State) : s.PursesSound ↔ s.purses.Sound := Iff.rfl

theorem addTotal_le (total n : Nat) : addTotal total n ≤ 4294967295 := Nat.min_le_right _ _

theorem State.Quiet.pursesSound {s t : State} (h : s.Quiet t) (hs : s.purses.Sound) : t.purses.Sound := by
  obtain ⟨⟨f, hf, hp⟩, -⟩ := h
  obtain ⟨hord, hlen, hall, hcls, hfloat, htotals⟩ := hs
  rw [hp]
  refine ⟨List.pairwise_map.2 (hord.imp fun h => ?_), by simpa using hlen, fun q hq => ?_, hcls, ?_, htotals⟩
  · rwa [(hf _).1, (hf _).1]
  · obtain ⟨p, hm, rfl⟩ := List.mem_map.1 hq
    obtain ⟨h1, h2, h3, -, h5, -⟩ := hf p
    rw [Purse.Sound, h1, h2, h3, h5]
    exact hall p hm
  · rw [hfloat, List.map_map]
    exact congrArg List.sum (List.map_congr_left fun q _ => (hf q).2.1.symm)

/-- The table with one card's record changed, the float by the change of the balance. -/
theorem modifyPurse_sound {s : State} {p : Purse} {f : Purse → Purse} {z : Int} (hp : s.purse? p.card = some p)
    (hc : ∀ q, (f q).card = q.card) (hz : (f p).balance = p.balance + z) (hf : (f p).Sound) (hs : s.purses.Sound) :
    ((s.modifyPurse p.card f).addFloat z).purses.Sound := by
  obtain ⟨hord, hlen, hall, hcls, hfloat, htotals⟩ := hs
  have hmem := purse?_mem hp
  refine ⟨List.pairwise_map.2 (hord.imp fun h => ?_), by simpa [State.modifyPurse, State.addFloat] using hlen, ?_, hcls, ?_, htotals⟩
  · split_ifs <;> simpa only [hc] using h
  · refine modifyPurse_forall (P := Purse.Sound) (fun q hq hqc _ => ?_) hall
    rwa [card_unique_of_sorted hord hq hmem hqc]
  · change s.purses.floatTotal + z = (((s.purses.purses.map fun q => if q.card = p.card then f q else q)).map Purse.balance).sum
    rw [modify_balances hord hmem, hfloat, hz]
    omega

/-- What a charge that is not refused has checked, and the sums it writes (R43 to R52). -/
theorem charge_bounds {s : State} {p : Purse} {gross kept : Nat}
    (hr : s.chargeRefusal p (s.chargeOf p gross) kept = none) (hc : (s.classOf p).Sound) :
    -20000 ≤ p.balance - (s.chargeOf p gross).net ∧ s.journal.records.length < 2047 := by
  obtain ⟨-, -, hfloor, -⟩ := hc
  unfold State.chargeRefusal at hr
  dsimp only at hr
  split at hr
  · cases hr
  split at hr
  · cases hr
  next hb =>
    split at hr
    · cases hr
    next hroom => exact ⟨by omega, not_le.1 (mt (debitRoom_false s).2 hroom)⟩

/-- The subsidy used in an occurrence stays within the class's cap, or within what was used before (R46, R52). -/
theorem charged_windowUsed {s : State} {p : Purse} (gross : Nat) (hc : (s.classOf p).cap ≤ 50000) (hp : p.windowUsed ≤ 50000) :
    (p.charged (s.chargeOf p gross) s.time.day).windowUsed ≤ 50000 := by
  have hused : ∀ w, p.usedIn s.time.day w ≤ 50000 := fun w => by unfold Purse.usedIn; split <;> omega
  unfold Purse.charged State.chargeOf
  dsimp only
  split
  next w he =>
    have := hused w
    simp only [he, subsidyOf, capRoom]
    omega
  next => exact hp

theorem classOf_sound {s : State} (hs : s.purses.Sound) (p : Purse) : (s.classOf p).Sound :=
  hs.2.2.2.1 _ (Vector.mem_toList_iff.2 (Vector.getElem_mem _))

theorem charged_sound {s : State} {p : Purse} {gross kept : Nat} (hp : s.purse? p.card = some p)
    (hr : s.chargeRefusal p (s.chargeOf p gross) kept = none) (hs : s.purses.Sound) :
    (p.charged (s.chargeOf p gross) s.time.day).Sound := by
  obtain ⟨h1, h2, -, h4, -, h6⟩ := hs.2.2.1 p (purse?_mem hp)
  have hc := classOf_sound hs p
  exact ⟨h1, h2, (charge_bounds hr hc).1, by simp only [Purse.charged]; omega, Nat.min_le_right _ _,
    charged_windowUsed gross hc.2.1 h6⟩

theorem Money.pursesSound {s t : State} (h : Money s t) (hs : s.purses.Sound) : t.purses.Sound := by
  cases h with
  | enrol card cls opening h1 h2 ho hn hlen =>
    obtain ⟨hord, -, hall, hcls, hfloat, hd, hsub, -⟩ := hs
    rw [appendRecord_purses]
    refine ⟨insertPurse_ordered hord (purse?_none_iff.1 hn), ?_, fun q hq => ?_, hcls, ?_, hd, hsub, addTotal_le _ _⟩
    · exact (insertPurse_length _ _).le.trans hlen
    · rcases mem_insertPurse.1 hq with rfl | hq
      · refine ⟨h1, h2, ?_, ?_, Nat.zero_le _, Nat.zero_le _⟩ <;> simp only [Purse.enrolled] <;> omega
      · exact hall q hq
    · change s.purses.floatTotal + opening = _
      rw [hfloat]
      exact (Int.add_comm _ _).trans (insertPurse_balances (Purse.enrolled card cls opening) s.purses.purses).symm
  | retire p hp =>
    obtain ⟨hord, hlen, hall, hcls, hfloat, htotals⟩ := hs
    rw [appendRecord_purses]
    refine ⟨hord.filter _, (List.length_filter_le _ _).trans hlen, fun q hq => hall q (List.mem_filter.1 hq).1, hcls, ?_, htotals⟩
    change s.purses.floatTotal + -p.balance = _
    rw [hfloat]
    exact (filter_balances hord (purse?_mem hp)).symm
  | adjust p amount hp hl hu =>
    rw [appendRecord_purses]
    obtain ⟨h1, h2, -, -, h56⟩ := hs.2.2.1 p (purse?_mem hp)
    exact modifyPurse_sound hp (fun _ => rfl) rfl ⟨h1, h2, hl, hu, h56⟩ hs
  | credit p amount source body hp hu =>
    rw [State.applyCredit, appendRecord_purses]
    obtain ⟨h1, h2, h3, -, h56⟩ := hs.2.2.1 p (purse?_mem hp)
    obtain ⟨hord, hlen, hall, hcls, hfloat, hd, hsub, -⟩ :=
      modifyPurse_sound (f := fun q => { q with balance := q.balance + amount }) (z := amount) hp (fun _ => rfl) rfl
        ⟨h1, h2, by simp only; omega, hu, h56⟩ hs
    exact ⟨hord, hlen, hall, hcls, hfloat, hd, hsub, addTotal_le _ _⟩
  | charge p gross kept station hp hr =>
    rw [State.applyCharge, appendRecord_purses]
    obtain ⟨hord, hlen, hall, hcls, hfloat, -, -, hcr⟩ :=
      modifyPurse_sound (f := fun q => q.charged (s.chargeOf p gross) s.time.day) (z := -((s.chargeOf p gross).net : Int)) hp
        (fun _ => rfl) rfl (charged_sound hp hr hs) hs
    exact ⟨hord, hlen, hall, hcls, hfloat, addTotal_le _ _, addTotal_le _ _, hcr⟩
  | dayMark d =>
    unfold State.writeDayMark
    split
    · rw [State.resetTotals, appendRecord_purses]
      obtain ⟨hord, hlen, hall, hcls, hfloat, -⟩ := hs
      exact ⟨hord, hlen, hall, hcls, hfloat, Nat.zero_le _, Nat.zero_le _, Nat.zero_le _⟩
    · exact hs
  | classSet cls rec hr =>
    obtain ⟨hord, hlen, hall, hcls, hfloat, htotals⟩ := hs
    refine ⟨hord, hlen, hall, fun c hc => ?_, hfloat, htotals⟩
    rw [State.setPurses_purses, Vector.toList_set] at hc
    rcases List.mem_or_eq_of_mem_set hc with hc | rfl
    · exact hcls c hc
    · simpa [ClassRecord.inRange, ClassRecord.Sound, and_assoc] using hr

theorem Change.pursesSound {s t : State} (h : Change s t) (hs : s.PursesSound) : t.PursesSound :=
  h.money_or_quiet.elim (fun hm => hm.pursesSound hs) fun hq => hq.pursesSound hs

theorem warmStart_pursesSound {s : State} (cause : StartCause) (hs : s.PursesSound) : (s.warmStart cause).PursesSound :=
  warmStart_keeps (P := State.PursesSound) (fun _ _ => State.Quiet.pursesSound) (fun _ _ => Money.pursesSound) s cause hs

theorem reset_pursesSound : State.reset.PursesSound := by
  refine ⟨List.Pairwise.nil, Nat.zero_le _, (fun p hp => by cases hp), fun c hc => ?_, rfl, Nat.zero_le _, Nat.zero_le _,
    Nat.zero_le _⟩
  have hcold : c ∈ (Vector.replicate 8 ClassRecord.cold).toList := hc
  rw [Vector.toList_replicate] at hcold
  rw [List.eq_of_mem_replicate hcold]
  decide

/-- Settles O51: every change of the money keeps the table in order and the float the sum of the balances, and every other change
is quiet. -/
theorem pursesInvariant : Obligations.PursesInvariant := by
  refine fun s t hs h => step_keeps (P := State.PursesSound) (fun _ _ _ _ _ hs => hs) (fun _ _ => Change.pursesSound)
    (fun s _ k _ hs => ?_) (fun _ => warmStart_pursesSound) (fun _ => reset_pursesSound) hs h
  rw [lowerJournal_eq]
  exact hs

end Sys2Proof.Machine
end

/-! # The invariants of the journal and of the attention unit (O53, O55) -/

section
namespace Sys2Proof.Machine

/-! ## The series of the sequence numbers -/

theorem consecutive_tail {n : Nat} {l : List Nat} (h : consecutive (n :: l) = true) : consecutive l = true := by
  cases l with
  | nil => rfl
  | cons m l =>
    rw [consecutive, Bool.and_eq_true] at h
    exact h.2

theorem consecutive_drop {l : List Nat} (h : consecutive l = true) (k : Nat) : consecutive (l.drop k) = true := by
  induction k generalizing l with
  | zero => exact h
  | succ k ih =>
    cases l with
    | nil => rfl
    | cons n l => exact ih (consecutive_tail h)

/-- A series goes on with the number after its last. -/
theorem consecutive_snoc {l : List Nat} {n : Nat} (h : consecutive (l ++ [n]) = true) :
    consecutive (l ++ [n] ++ [nextSequence n]) = true := by
  induction l with
  | nil => simp [consecutive, nextSequence_eq]
  | cons m l ih =>
    have htail := ih (consecutive_tail h)
    cases l with
    | nil =>
      simp only [List.cons_append, List.nil_append, consecutive, Bool.and_true] at h htail ⊢
      rw [h, htail, Bool.and_true]
    | cons k l =>
      simp only [List.cons_append, consecutive, Bool.and_eq_true] at h htail ⊢
      exact ⟨h.1, htail⟩

theorem nextSequence_range {n : Nat} (h : 1 ≤ n ∧ n ≤ 4294967295) : 1 ≤ nextSequence n ∧ nextSequence n ≤ 4294967295 := by
  rw [nextSequence_eq]
  split <;> omega

theorem withRecord_series (s : State) (source : Nat) (body : RecordBody) :
    (s.withRecord source body).journal.series = s.journal.series ++ [nextSequence s.journal.nextSeq] := by
  simp [Journal.series, State.withRecord, nextSequence_eq]

/-! ## The journal -/

/-- An append in the room of the journal (R124, R126). -/
theorem withRecord_journalSound {s : State} (source : Nat) (body : RecordBody) (hroom : s.journal.records.length < 2048)
    (hs : s.JournalSound) : (s.withRecord source body).JournalSound := by
  obtain ⟨-, hcons, hrange, hcur, h1, h2, h3, h4, h5, h6⟩ := hs
  refine ⟨by simpa [State.withRecord] using hroom, ?_, fun n hn => ?_, ?_, h1, h2, h3, h4, h5, fun h => h6 ?_⟩
  · rw [withRecord_series]
    exact consecutive_snoc hcons
  · rw [withRecord_series, List.mem_append] at hn
    rcases hn with hn | hn
    · exact hrange n hn
    · obtain rfl := List.mem_singleton.1 hn
      exact nextSequence_range (hrange _ (by simp [Journal.series]))
  · rw [withRecord_series]
    exact List.mem_append_left _ hcur
  · simp only [State.withRecord, List.length_append, List.length_singleton] at h
    omega

/-- A change of the money writes the journal by one append, or not at all. -/
theorem Money.record {s t : State} (h : Money s t) :
    t.journal = s.journal ∧ t.attention = s.attention ∨
      s.journal.records.length < 2048 ∧ ∃ source body, t.journal = (s.withRecord source body).journal ∧
        t.attention = (s.withRecord source body).attention := by
  cases h with
  | enrol card cls opening _ _ _ _ _ hroom =>
    rw [appendRecord_eq]
    exact .inr ⟨by omega, 0, _, rfl, rfl⟩
  | retire p _ _ hroom =>
    rw [appendRecord_eq]
    exact .inr ⟨by omega, 0, _, rfl, rfl⟩
  | adjust p amount _ _ _ hroom =>
    rw [appendRecord_eq]
    exact .inr ⟨by omega, 0, _, rfl, rfl⟩
  | credit p amount source body _ _ hroom =>
    rw [State.applyCredit, appendRecord_eq]
    exact .inr ⟨by omega, source, _, rfl, rfl⟩
  | charge p gross kept station _ hr =>
    rw [State.applyCharge, appendRecord_eq]
    refine .inr ⟨?_, station, _, rfl, rfl⟩
    unfold State.chargeRefusal at hr
    simp only [debitRoom_false] at hr
    split_ifs at hr with _ _ hroom
    omega
  | dayMark d =>
    rw [writeDayMark_eq]
    unfold State.dayMarked
    split
    next hroom => exact .inr ⟨hroom, 0, _, rfl, rfl⟩
    next => exact .inl ⟨rfl, rfl⟩
  | classSet => exact .inl ⟨rfl, rfl⟩

theorem Money.journalSound {s t : State} (h : Money s t) (hs : s.JournalSound) : t.JournalSound := by
  rcases h.record with ⟨hj, -⟩ | ⟨hroom, source, body, hj, -⟩
  · simpa only [State.JournalSound, hj] using hs
  · simpa only [State.JournalSound, hj] using withRecord_journalSound source body hroom hs

/-- The timer after a JOURNAL_SET is at most the reload, and is the reload below the new mark (R136). -/
theorem timerAfterSet_bounds (j : Journal) (mark reload : Nat) :
    j.timerAfterSet mark reload ≤ reload ∧ (j.records.length < mark → j.timerAfterSet mark reload = reload) := by
  unfold Journal.timerAfterSet Journal.occupancy
  refine ⟨?_, fun h => if_pos h⟩
  split_ifs <;> omega

theorem settings_journalSound {s : State} {mark reload : Nat} (h1 : 256 ≤ mark) (h2 : mark ≤ 1920) (h3 : 5 ≤ reload)
    (h4 : reload ≤ 120) (hs : s.JournalSound) : (s.setJournal (s.journal.withSettings mark reload)).JournalSound := by
  obtain ⟨hlen, hcons, hrange, hcur, -⟩ := hs
  obtain ⟨h5, h6⟩ := timerAfterSet_bounds s.journal mark reload
  exact ⟨hlen, hcons, hrange, hcur, h1, h2, h3, h4, h5, h6⟩

theorem journalTick_journalSound {s : State} (hs : s.JournalSound) : s.journalTick.JournalSound := by
  unfold State.journalTick
  split
  next hc =>
    obtain ⟨hlen, hcons, hrange, hcur, h1, h2, h3, h4, h5, -⟩ := hs
    have hhigh := (high_true s.journal).1 hc.1
    rw [reportBegin_eq]
    exact ⟨hlen, hcons, hrange, hcur, h1, h2, h3, h4, (Nat.sub_le _ _).trans h5, fun h => absurd h (not_lt.2 hhigh)⟩
  next => exact hs

/-- The changes that write the journal or the attention unit; all others leave both as they are. -/
theorem Change.journal_attention {s t : State} (h : Change s t) :
    Money s t ∨ (t.journal = s.journal ∧ (t.attention = s.attention ∨ t.attention.condition = s.attention.condition ∧
        (s.AttentionSound → t.attention.Coherent))) ∨
      (∃ n, (s.JournalSound → n ∈ s.journal.series) ∧ t = s.setJournal { s.journal with cursor := n }) ∨
      (∃ mark reload, 256 ≤ mark ∧ mark ≤ 1920 ∧ 5 ≤ reload ∧ reload ≤ 120 ∧
        t = (s.lowerJournal (s.journal.withSettings mark reload)).reportBegin .journalHigh
          (!s.journal.high && (s.journal.withSettings mark reload).high)) ∨
      t = s.journalTick := by
  cases h with
  | money h => exact .inl h
  | cursor n hn => exact .inr (.inr (.inl ⟨n, hn, rfl⟩))
  | settings mark reload h1 h2 h3 h4 => exact .inr (.inr (.inr (.inl ⟨mark, reload, h1, h2, h3, h4, rfl⟩)))
  | journalTick => exact .inr (.inr (.inr (.inr rfl)))
  | attention a hc hcoh => exact .inr (.inl ⟨rfl, .inr ⟨hc, hcoh⟩⟩)
  | block p =>
    unfold State.blockPurse
    split
    · exact .inr (.inl ⟨rfl, .inl rfl⟩)
    · split <;> exact .inr (.inl ⟨rfl, .inl rfl⟩)
  | release station e =>
    rw [State.releaseStation, removeHolds_eq]
    exact .inr (.inl ⟨rfl, .inl rfl⟩)
  | openHold p station g =>
    unfold State.openHold
    dsimp only
    split <;> exact .inr (.inl ⟨rfl, .inl rfl⟩)
  | holdTick =>
    unfold State.holdTick
    split
    · obtain ⟨p, h, he⟩ := expireHolds_stores s.expiring s.countHolds
      rw [he]
      exact .inr (.inl ⟨rfl, .inl rfl⟩)
    · exact .inr (.inl ⟨rfl, .inl rfl⟩)
  | unblock | reclass | time | station | refreshHold | removeHold | forget | batch | lane | port | engine | ticks =>
    exact .inr (.inl ⟨rfl, .inl rfl⟩)

theorem Change.journalSound {s t : State} (h : Change s t) (hs : s.JournalSound) : t.JournalSound := by
  rcases h.journal_attention with h | ⟨hj, -⟩ | ⟨n, hn, rfl⟩ | ⟨mark, reload, h1, h2, h3, h4, rfl⟩ | rfl
  · exact h.journalSound hs
  · simpa only [State.JournalSound, hj] using hs
  · have hmem := hn hs
    obtain ⟨hlen, hcons, hrange, -, hrest⟩ := hs
    exact ⟨hlen, hcons, hrange, hmem, hrest⟩
  · rw [reportBegin_eq, lowerJournal_eq]
    exact settings_journalSound h1 h2 h3 h4 hs
  · exact journalTick_journalSound hs

/-- What a confirmation takes out, and that the cursor lies behind it (R133). -/
theorem confirmCount_bounds {j : Journal} {seq k : Nat} (h : j.confirmCount seq = some k) :
    k ≤ j.readCount ∧ k ≤ j.records.length := by
  unfold Journal.confirmCount at h
  dsimp only at h
  split at h
  next hc =>
    cases h
    exact ⟨hc.1, hc.2⟩
  next => cases h

theorem confirm_series {j : Journal} {k : Nat} (hk : k ≤ j.records.length) :
    (j.confirm k).series = j.series.drop k := by
  unfold Journal.series Journal.confirm
  rw [List.drop_append_of_le_length (by simpa using hk), List.map_drop]

/-- A record before the cursor may go: the cursor stays at a number of the series (R131, R133). -/
theorem cursor_mem_drop {j : Journal} {k : Nat} (hk : k ≤ j.readCount) (hl : k ≤ j.records.length)
    (hc : j.cursor ∈ j.series) : j.cursor ∈ j.series.drop k := by
  unfold Journal.series at hc ⊢
  rw [List.drop_append_of_le_length (by simpa using hl)]
  rcases List.mem_append.1 hc with hc | hc
  · obtain ⟨r, hr, he⟩ := List.mem_map.1 hc
    have hlt : j.readCount < j.records.length := List.findIdx_lt_length_of_exists ⟨r, hr, by simp [he]⟩
    have hat : (j.records[j.readCount]'hlt).seq = j.cursor :=
      beq_iff_eq.1 (List.findIdx_getElem (p := fun r : Record => r.seq == j.cursor) (w := hlt))
    refine List.mem_append_left _ ?_
    rw [← List.map_drop, ← hat]
    refine List.mem_map_of_mem ?_
    rw [List.mem_iff_getElem]
    exact ⟨j.readCount - k, by simp only [List.length_drop]; omega, by simp only [List.getElem_drop]; congr 1; omega⟩
  · exact List.mem_append_right _ hc

theorem confirm_journalSound {s : State} {seq k : Nat} (hk : s.journal.confirmCount seq = some k) (hs : s.JournalSound) :
    (s.setJournal (s.journal.confirm k)).JournalSound := by
  obtain ⟨hread, hle⟩ := confirmCount_bounds hk
  obtain ⟨hlen, hcons, hrange, hcur, h1, h2, h3, h4, h5, h6⟩ := hs
  have hser := confirm_series hle
  refine ⟨?_, ?_, fun n hn => hrange n ?_, ?_, h1, h2, h3, h4, ?_, ?_⟩
  · simp only [State.setJournal_journal, Journal.confirm, List.length_drop]
    omega
  · rw [State.setJournal_journal, hser]
    exact consecutive_drop hcons k
  · rw [State.setJournal_journal, hser] at hn
    exact List.mem_of_mem_drop hn
  · rw [State.setJournal_journal, hser]
    exact cursor_mem_drop hread hle hcur
  · simp only [State.setJournal_journal, Journal.confirm]
    split <;> omega
  · exact fun h => if_pos h

theorem warmBlocks_journalSound {s : State} (cause : StartCause) (hs : s.JournalSound) : (s.warmBlocks cause).JournalSound := by
  obtain ⟨hlen, hcons, hrange, -, h1, h2, h3, h4, -, -⟩ := hs
  exact ⟨hlen, hcons, hrange, start_mem_series _, h1, h2, h3, h4, le_refl _, fun _ => rfl⟩

theorem catchUp_journalSound {s : State} (hs : s.JournalSound) : s.catchUp.JournalSound := by
  unfold State.catchUp
  split
  · exact hs
  · exact (Money.dayMark s _).journalSound hs

theorem reset_journalSound : State.reset.JournalSound := by
  refine ⟨by decide, by decide, fun n hn => ?_, by decide, by decide, by decide, by decide, by decide, by decide, fun _ => rfl⟩
  obtain rfl : n = 1 := List.mem_singleton.1 hn
  decide

/-- Settles O53: an append has room and takes the next number, a confirmation takes out only what has been read, and a setting or a
tick keeps the timer at or below the reload. -/
theorem journalInvariant : Obligations.JournalInvariant := by
  refine fun s t hs h => step_keeps (P := State.JournalSound) (fun _ _ _ _ _ hs => hs) (fun _ _ => Change.journalSound)
    (fun s seq k hk hs => ?_) (fun s cause hs => catchUp_journalSound (warmBlocks_journalSound cause hs))
    (fun _ => reset_journalSound) hs h
  rw [lowerJournal_eq]
  exact confirm_journalSound hk hs

/-! ## The attention unit -/

/-- The level conditions as the journal stands (R127, R138). -/
def Journal.conditions (j : Journal) : CauseFlags :=
  { CauseFlags.clear with
    journalHigh := decide (j.highWater ≤ j.records.length)
    journalFull := decide (2047 ≤ j.records.length)
    overdue := decide (j.timer = 0) }

theorem attentionSound_iff (s : State) :
    s.AttentionSound ↔ s.attention.condition = s.journal.conditions ∧ s.attention.Coherent := Iff.rfl

theorem conditionBegins_coherent {a : AttentionUnit} (c : Cause) (h : a.Coherent) : (a.conditionBegins c).Coherent := by
  obtain ⟨hp, ha, he⟩ := h
  refine ⟨fun d hd hc => ?_, fun d hd hc => ?_, he⟩
  · simp only [AttentionUnit.conditionBegins, CauseFlags.get_set] at hc ⊢
    split
    · rfl
    next hdc => exact hp d hd (by rwa [if_neg hdc] at hc)
  · simp only [AttentionUnit.conditionBegins, CauseFlags.get_set] at hc ⊢
    split at hc
    · cases hc
    next hdc => rw [if_neg hdc]; exact ha d hd hc

theorem conditionEnds_coherent {a : AttentionUnit} (c : Cause) (h : a.Coherent) : (a.conditionEnds c).Coherent := by
  obtain ⟨hp, ha, he⟩ := h
  unfold AttentionUnit.conditionEnds
  split
  next hack =>
    refine ⟨fun d hd hc => ?_, fun d hd hc => ?_, he⟩ <;> simp only [CauseFlags.get_set] at hc ⊢ <;> split at hc
    · cases hc
    next hdc => rw [if_neg hdc]; exact hp d hd hc
    · cases hc
    next hdc => rw [if_neg hdc]; exact ha d hd hc
  next hack =>
    refine ⟨fun d hd hc => ?_, fun d hd hc => ?_, he⟩
    · simp only [CauseFlags.get_set] at hc
      split at hc
      · cases hc
      · exact hp d hd hc
    · have hdc : d ≠ c := by rintro rfl; exact hack hc
      rw [CauseFlags.get_set, if_neg hdc]
      exact ha d hd hc

theorem conditionEnds_condition (a : AttentionUnit) (c : Cause) : (a.conditionEnds c).condition = a.condition.set c false := by
  unfold AttentionUnit.conditionEnds
  split <;> rfl

/-- The end of a condition reported when `p` holds. -/
theorem afterEnd_condition (a : AttentionUnit) (c : Cause) (p : Prop) [Decidable p] :
    (a.afterEnd c p).condition = if p then a.condition.set c false else a.condition := by
  unfold AttentionUnit.afterEnd
  split
  · exact conditionEnds_condition a c
  · rfl

theorem afterEnd_coherent {a : AttentionUnit} (c : Cause) (p : Prop) [Decidable p] (h : a.Coherent) : (a.afterEnd c p).Coherent := by
  unfold AttentionUnit.afterEnd
  split
  · exact conditionEnds_coherent c h
  · exact h

/-- An append begins the conditions its occupancy reaches (R127). -/
theorem withRecord_attentionSound {s : State} (source : Nat) (body : RecordBody) (h : s.AttentionSound) :
    (s.withRecord source body).AttentionSound := by
  rw [attentionSound_iff] at h ⊢
  obtain ⟨hc, hcoh⟩ := h
  simp only [State.withRecord, AttentionUnit.afterAppend, Journal.conditions, List.length_append, List.length_singleton]
  refine ⟨?_, ?_⟩
  · split_ifs <;> simp only [AttentionUnit.conditionBegins, hc, Journal.conditions, CauseFlags.set, CauseFlags.mk.injEq,
      true_and, decide_eq_decide, Bool.true_eq, decide_eq_true_eq] <;> exact ⟨by omega, by omega, rfl⟩
  · split_ifs
    · exact conditionBegins_coherent _ (conditionBegins_coherent _ hcoh)
    · exact conditionBegins_coherent _ hcoh
    · exact conditionBegins_coherent _ hcoh
    · exact hcoh

/-- A journal with the same appended records, or fewer, written with the ends of its conditions: sound when no condition begins
with it. -/
theorem lowerJournal_attentionSound {s : State} {j : Journal} (h : s.AttentionSound)
    (ho : j.timer = 0 → s.journal.timer = 0) (hh : j.highWater ≤ j.records.length → s.journal.highWater ≤ s.journal.records.length)
    (hf : 2047 ≤ j.records.length → 2047 ≤ s.journal.records.length) : (s.lowerJournal j).AttentionSound := by
  rw [attentionSound_iff] at h ⊢
  obtain ⟨hc, hcoh⟩ := h
  rw [lowerJournal_eq]
  refine ⟨?_, afterEnd_coherent _ _ (afterEnd_coherent _ _ (afterEnd_coherent _ _ hcoh))⟩
  simp only [afterEnd_condition, hc]
  split_ifs <;> simp only [Journal.conditions, CauseFlags.set, CauseFlags.mk.injEq, true_and, decide_eq_decide,
    Bool.false_eq, decide_eq_false_iff_not] <;> omega

theorem timerAfterSet_zero {j : Journal} {mark reload : Nat} (hr : 5 ≤ reload) (h : j.timerAfterSet mark reload = 0) :
    j.timer = 0 := by
  unfold Journal.timerAfterSet at h
  split_ifs at h <;> omega

/-- A JOURNAL_SET ends the conditions that no longer hold and begins JOURNAL_HIGH when the new mark is reached (R127, R136). -/
theorem settings_attentionSound {s : State} {mark reload : Nat} (hr : 5 ≤ reload) (h : s.AttentionSound) :
    ((s.lowerJournal (s.journal.withSettings mark reload)).reportBegin .journalHigh
      (!s.journal.high && (s.journal.withSettings mark reload).high)).AttentionSound := by
  have htimer : (s.journal.withSettings mark reload).timer = 0 → s.journal.timer = 0 := timerAfterSet_zero hr
  have hrec : (s.journal.withSettings mark reload).records = s.journal.records := rfl
  generalize s.journal.withSettings mark reload = j at htimer hrec ⊢
  have hbegin : (!s.journal.high && j.high) =
      decide (s.journal.records.length < s.journal.highWater ∧ j.highWater ≤ s.journal.records.length) := by
    rw [Bool.eq_iff_iff, Bool.and_eq_true, Bool.not_eq_true', ← Bool.not_eq_true, high_true, high_true, hrec,
      decide_eq_true_eq, not_le]
  rw [attentionSound_iff] at h ⊢
  obtain ⟨hc, hcoh⟩ := h
  have hends := afterEnd_coherent .journalFull (2047 ≤ s.journal.records.length ∧ j.records.length < 2047)
    (afterEnd_coherent .journalHigh (s.journal.highWater ≤ s.journal.records.length ∧ j.records.length < j.highWater)
      (afterEnd_coherent .overdue (s.journal.timer = 0 ∧ j.timer ≠ 0) hcoh))
  rw [reportBegin_eq, lowerJournal_eq, hbegin]
  constructor
  · simp only [decide_eq_true_eq, AttentionUnit.conditionBegins, apply_ite AttentionUnit.condition, afterEnd_condition, hc,
      hrec]
    split_ifs <;> simp only [Journal.conditions, CauseFlags.set, CauseFlags.mk.injEq, true_and, decide_eq_decide,
      Bool.false_eq, Bool.true_eq, decide_eq_true_eq, decide_eq_false_iff_not, hrec] <;> omega
  · simp only [decide_eq_true_eq]
    split
    · exact conditionBegins_coherent _ hends
    · exact hends

theorem Money.attentionSound {s t : State} (h : Money s t) (hs : s.AttentionSound) : t.AttentionSound := by
  rcases h.record with ⟨hj, ha⟩ | ⟨-, source, body, hj, ha⟩
  · simpa only [State.AttentionSound, hj, ha] using hs
  · simpa only [State.AttentionSound, hj, ha] using withRecord_attentionSound source body hs

/-- The tick that takes the timer to 0 begins the overdue state (R138). -/
theorem journalTick_attentionSound {s : State} (hs : s.AttentionSound) : s.journalTick.AttentionSound := by
  unfold State.journalTick
  split
  next hc =>
    obtain ⟨-, -, htimer⟩ := hc
    rw [attentionSound_iff] at hs ⊢
    obtain ⟨hc, hcoh⟩ := hs
    rw [reportBegin_eq]
    simp only [decide_eq_true_eq]
    split
    next hone =>
      refine ⟨?_, conditionBegins_coherent .overdue hcoh⟩
      simp [AttentionUnit.conditionBegins, hc, Journal.conditions, CauseFlags.set, hone]
    next hone =>
      have hkeep : decide (s.journal.timer - 1 = 0) = decide (s.journal.timer = 0) := decide_eq_decide.2 (by omega)
      exact ⟨hc.trans (congrArg (fun b => { s.journal.conditions with overdue := b }) hkeep.symm), hcoh⟩
  next => exact hs

theorem Change.attentionSound {s t : State} (h : Change s t) (hs : s.AttentionSound) : t.AttentionSound := by
  rcases h.journal_attention with h | ⟨hj, ha | ⟨hc, hcoh⟩⟩ | ⟨n, -, rfl⟩ | ⟨mark, reload, -, -, h3, -, rfl⟩ | rfl
  · exact h.attentionSound hs
  · simpa only [State.AttentionSound, hj, ha] using hs
  · rw [attentionSound_iff, hj, hc]
    exact ⟨hs.1, hcoh hs⟩
  · exact hs
  · exact settings_attentionSound h3 hs
  · exact journalTick_attentionSound hs

/-- A warm start loads the timer, so no journal is overdue after it (R140). -/
theorem warmStart_attentionSound {s : State} (cause : StartCause) (hs : s.JournalSound) : (s.warmStart cause).AttentionSound := by
  have htimer : ((s.warmBlocks cause).catchUp).journal.timer = s.journal.reload := by
    unfold State.catchUp
    split
    · rfl
    · rw [State.writeDayMark]
      split
      · rw [appendRecord_eq]
        rfl
      · rfl
  have hreload : 5 ≤ s.journal.reload := hs.2.2.2.2.2.2.1
  have hdue : decide ((s.warmBlocks cause).catchUp.journal.timer = 0) = false := by
    rw [htimer, decide_eq_false_iff_not]
    omega
  refine ⟨?_, fun c _ h => h, fun c _ h => ?_, rfl, rfl⟩
  · exact congrArg (fun b => { (s.warmBlocks cause).catchUp.journal.conditions with overdue := b }) hdue.symm
  · cases c <;> cases h

theorem reset_attentionSound : State.reset.AttentionSound := by decide

/-- Settles O55: a level condition begins and ends with the journal, and a cause is acknowledged only while it holds. -/
theorem attentionInvariant : Obligations.AttentionInvariant := by
  refine fun s t hj ha h => (step_keeps (P := fun s => s.JournalSound ∧ s.AttentionSound) (fun _ _ _ _ _ hs => hs)
    (fun _ _ h hs => ⟨h.journalSound hs.1, h.attentionSound hs.2⟩) (fun s seq k hk hs => ⟨?_, ?_⟩)
    (fun s cause hs => ⟨catchUp_journalSound (warmBlocks_journalSound cause hs.1), warmStart_attentionSound cause hs.1⟩)
    (fun _ => ⟨reset_journalSound, reset_attentionSound⟩) ⟨hj, ha⟩ h).2
  · rw [lowerJournal_eq]
    exact confirm_journalSound hk hs.1
  · have hreload : 5 ≤ s.journal.reload := hs.1.2.2.2.2.2.2.1
    have hlen := (confirmCount_bounds hk).2
    refine lowerJournal_attentionSound hs.2 (fun h => ?_) ?_ ?_
    · simp only [Journal.confirm] at h
      split at h
      · omega
      · exact h
    · simp only [Journal.confirm, List.length_drop]
      omega
    · simp only [Journal.confirm, List.length_drop]
      omega

end Sys2Proof.Machine
end

/-! # The holds: several removals at once, the expiries of a tick, and the hold invariant (O52, O45, O23) -/

section
namespace Sys2Proof.Machine

/-! ## The expiries of a tick -/

/-- The last-expired cards after the expiry of some holds, one after the other (R78). -/
def expiredInto (l : List Hold) (v : Vector (Option Nat) 14) : Vector (Option Nat) 14 :=
  Vector.ofFn fun k : Fin 14 =>
    match (l.filter fun h => decide (h.station = k.val + 1)).getLast? with
    | some h => some h.card
    | none => v[k]

theorem expiredInto_cons (h : Hold) (l : List Hold) (v : Vector (Option Nat) 14) :
    expiredInto l (v.setIfInBounds (stationSlot h.station) (some h.card)) = expiredInto (h :: l) v := by
  refine Vector.ext fun k hk => ?_
  simp only [expiredInto, Vector.getElem_ofFn, Fin.getElem_fin, List.filter_cons, decide_eq_true_eq]
  by_cases hs : h.station = k + 1
  · have hslot : stationSlot h.station = k := by rw [hs]; rfl
    rw [if_pos hs, hslot, Vector.getElem_setIfInBounds_self, List.getLast?_cons]
    cases (l.filter fun h => decide (h.station = k + 1)).getLast? <;> rfl
  · have hslot : stationSlot h.station ≠ k := by unfold stationSlot; split <;> omega
    rw [if_neg hs, Vector.getElem_setIfInBounds_ne hk hslot]

/-- Expiries are removals that write the last-expired cards. -/
theorem expireHolds_eq (l : List Hold) (s : State) : s.expireHolds l =
    (s.removeHolds l).setHolds { (s.removeHolds l).holds with lastExpired := expiredInto l s.holds.lastExpired } := by
  induction l generalizing s with
  | nil =>
    have hnil : expiredInto [] s.holds.lastExpired = s.holds.lastExpired :=
      Vector.ext fun k hk => by simp [expiredInto]
    rw [hnil]
    rfl
  | cons h l ih =>
    rw [State.expireHolds, ih, State.removeHolds, ← expiredInto_cons, removeHolds_eq, removeHolds_eq]
    rfl

/-- A card has one hold. -/
theorem hold_unique {s : State} (hs : s.HoldsSound) {g h : Hold} (hg : g ∈ s.holds.holds) (hh : h ∈ s.holds.holds)
    (hc : g.card = h.card) : g = h :=
  List.inj_on_of_nodup_map hs.2.2.1 hg hh hc

/-- The holds among which none of those that expire is left, one second older. -/
theorem older_kept {s : State} (hs : s.HoldsSound) :
    (s.holds.holds.map Hold.older).filter (fun h => !s.expiring.any fun g => h.card == g.card && h.station == g.station) =
      (s.holds.holds.filter fun h => decide (2 ≤ h.remaining)).map Hold.older := by
  rw [List.filter_map]
  refine congrArg _ (List.filter_congr fun h hh => ?_)
  rw [Function.comp, Bool.eq_iff_iff, Bool.not_eq_true', ← Bool.not_eq_true, List.any_eq_true, decide_eq_true_eq]
  constructor
  · intro hkeep
    by_contra hlt
    exact hkeep ⟨h, List.mem_filter.2 ⟨hh, by simp only [decide_eq_true_eq]; omega⟩, by simp [Hold.older]⟩
  · rintro hkeep ⟨g, hg, hgh⟩
    obtain ⟨hgm, hrem⟩ := List.mem_filter.1 hg
    simp only [Hold.older, Bool.and_eq_true, beq_iff_eq, decide_eq_true_eq] at hgh hrem
    rw [hold_unique hs hgm hh hgh.1.symm] at hrem
    omega

/-- A tick that the hold unit takes while RUNNING says its whole effect (R77, R78). -/
theorem holdTick_eq {s : State} (hs : s.HoldsSound) (hr : s.engine.state = .running) : s.holdTick =
    { s with
      purses := { s.purses with purses := s.purses.purses.map (fun q : Purse =>
        if ∃ h ∈ s.holds.holds, h.card = q.card ∧ h.remaining ≤ 1 then { q with holdStation := none } else q) }
      holds := { s.holds with
        holds := (s.holds.holds.filter (fun h : Hold => decide (2 ≤ h.remaining))).map
          (fun h : Hold => { h with remaining := h.remaining - 1 })
        lastExpired := Vector.ofFn (fun k : Fin 14 =>
          match (s.holds.holds.filter (fun h : Hold => decide (h.station = k.val + 1 ∧ h.remaining ≤ 1))).getLast? with
          | some h => some h.card
          | none => s.holds.lastExpired[k]) } } := by
  have hexpired : expiredInto s.expiring s.holds.lastExpired = Vector.ofFn (fun k : Fin 14 =>
      match (s.holds.holds.filter (fun h : Hold => decide (h.station = k.val + 1 ∧ h.remaining ≤ 1))).getLast? with
      | some h => some h.card
      | none => s.holds.lastExpired[k]) := by
    simp only [expiredInto, State.expiring, List.filter_filter, Bool.decide_and]
  have hpurses : (fun q : Purse => if s.expiring.any (fun h => h.card == q.card) then { q with holdStation := none } else q) =
      fun q : Purse =>
        if ∃ h ∈ s.holds.holds, h.card = q.card ∧ h.remaining ≤ 1 then { q with holdStation := none } else q := by
    funext q
    refine if_congr ?_ rfl rfl
    simp only [State.expiring, List.any_eq_true, List.mem_filter, beq_iff_eq, decide_eq_true_eq]
    exact ⟨fun ⟨h, ⟨hm, hrem⟩, hc⟩ => ⟨h, hm, hc, hrem⟩, fun ⟨h, hm, hc, hrem⟩ => ⟨h, ⟨hm, hrem⟩, hc⟩⟩
  have hkept : (s.holds.holds.filter (fun h : Hold => decide (2 ≤ h.remaining))).map
      (fun h : Hold => { h with remaining := h.remaining - 1 }) =
      (s.holds.holds.map Hold.older).filter (fun h => !s.expiring.any fun g => h.card == g.card && h.station == g.station) :=
    (older_kept hs).symm
  rw [State.holdTick, if_pos hr, expireHolds_eq, removeHolds_eq, ← hexpired, ← hpurses, hkept]
  rfl

/-- Settles O45: the tick of the hold unit is the removal of the holds that reach 0. -/
theorem holdTickResult : Obligations.HoldTickResult := by
  refine fun s => ⟨fun hd => ?_, fun hp _ hh hd => ?_⟩
  · change Host.Outcome.next (if s.supplied then s.takeHoldTick else s) = _
    rw [State.takeHoldTick, hd, if_neg Bool.false_ne_true, ite_self]
  · change Host.Outcome.next (if s.supplied then s.takeHoldTick else s) = _
    rw [if_pos ((supplied_iff s).2 hp), State.takeHoldTick, if_pos hd]
    dsimp only
    split
    next hr => exact congrArg _ (if_neg hr)
    next hr =>
      have := holdTick_eq (s := s.setTicks { s.ticks with hold := false }) hh (not_not.1 hr)
      rw [this]
      rfl

end Sys2Proof.Machine
end

/-! # The hold invariant (O52) -/

section
namespace Sys2Proof.Machine

/-! ## The holds and the purses -/

/-- Where the open holds stand: the card and the station of each. -/
def HoldUnit.places (u : HoldUnit) : List (Nat × Nat) := u.holds.map fun h => (h.card, h.station)

/-- The station entry of an address. -/
def HoldUnit.entry (u : HoldUnit) (station : Nat) : StationEntry := (u.stations[stationSlot station]?).getD StationEntry.cold

/-- An open hold's amount and time are in range (R60, R68). -/
def Hold.Sound (h : Hold) : Prop := h.granted ≤ 99999 ∧ 1 ≤ h.remaining ∧ h.remaining ≤ 900

/-- A station entry's settings are in range (R60). -/
def StationEntry.Sound (e : StationEntry) : Prop := e.quota ≤ 8 ∧ 30 ≤ e.lifetime ∧ e.lifetime ≤ 900

/-- The clauses of `State.HoldsSound` about the hold unit alone (R60, R63, R64, R66). -/
def HoldUnit.Sound (u : HoldUnit) : Prop :=
  (∀ e ∈ u.stations.toList, e.Sound) ∧ (∀ h ∈ u.holds, h.Sound) ∧
    (∀ k : Fin 14, u.lastExpired[k] ≠ none → (u.stations[k]).kind = .till) ∧
    u.places.length ≤ 64 ∧ (u.places.map Prod.fst).Nodup ∧
    ∀ x ∈ u.places, (u.entry x.2).kind = .till ∧ (u.places.filter fun y => y.2 == x.2).length ≤ 8

/-- The places of the holds and the purses' hold stations name each other (R5). -/
def Agree (l : List (Nat × Nat)) (ps : List Purse) : Prop :=
  (∀ x ∈ l, ∃ p ∈ ps, p.card = x.1 ∧ p.holdStation = some x.2) ∧
    ∀ p ∈ ps, p.holdStation = none ∨ p.state = .active ∧ ∃ k, p.holdStation = some k ∧ (p.card, k) ∈ l

theorem queue_length (s : State) (station : Nat) :
    (s.queue station).length = (s.holds.places.filter fun y => y.2 == station).length := by
  rw [HoldUnit.places, List.filter_map, List.length_map]
  rfl

theorem mem_places {u : HoldUnit} {x : Nat × Nat} : x ∈ u.places ↔ ∃ h ∈ u.holds, h.card = x.1 ∧ h.station = x.2 := by
  simp only [HoldUnit.places, List.mem_map, Prod.ext_iff]

theorem holdsSound_iff (s : State) : s.HoldsSound ↔
    s.holds.Sound ∧ Agree s.holds.places s.purses.purses ∧ (s.engine.state = .unset → s.holds.places = []) := by
  have hlen : s.holds.places.length = s.holds.holds.length := List.length_map ..
  have hcards : s.holds.places.map Prod.fst = s.holds.holds.map Hold.card := List.map_map
  have hnil : s.holds.places = [] ↔ s.holds.holds = [] := List.map_eq_nil_iff
  have hplace : ∀ P : Nat × Nat → Prop, (∀ x ∈ s.holds.places, P x) ↔ ∀ h ∈ s.holds.holds, P (h.card, h.station) :=
    fun P => List.forall_mem_map
  have hhas : ∀ (p : Purse), (∃ k, p.holdStation = some k ∧ (p.card, k) ∈ s.holds.places) ↔
      ∃ h ∈ s.holds.holds, h.card = p.card ∧ p.holdStation = some h.station := fun p => by
    simp only [mem_places]
    exact ⟨fun ⟨k, hk, h, hm, hc, he⟩ => ⟨h, hm, hc, he ▸ hk⟩, fun ⟨h, hm, hc, hk⟩ => ⟨h.station, hk, h, hm, hc, rfl⟩⟩
  simp only [HoldUnit.Sound, Agree, hlen, hcards, hnil, hhas, hplace, ← queue_length]
  constructor
  · rintro ⟨he, hl, hn, hh, hp, hx, hu⟩
    exact ⟨⟨he, fun h hm => ⟨(hh h hm).2.1, (hh h hm).2.2.1, (hh h hm).2.2.2.1⟩, hx, hl, hn,
      fun h hm => ⟨(hh h hm).1, (hh h hm).2.2.2.2.1⟩⟩, ⟨fun h hm => (hh h hm).2.2.2.2.2, hp⟩, hu⟩
  · rintro ⟨⟨he, hb, hx, hl, hn, hq⟩, ⟨hh, hp⟩, hu⟩
    exact ⟨he, hl, hn, fun h hm => ⟨(hq h hm).1, (hb h hm).1, (hb h hm).2.1, (hb h hm).2.2, (hq h hm).2, hh h hm⟩, hp, hx, hu⟩

/-- With fewer holds at places of tills the hold unit stays sound. -/
theorem HoldUnit.Sound.sublist {u v : HoldUnit} (hu : u.Sound) (he : ∀ e ∈ v.stations.toList, e.Sound)
    (hb : ∀ h ∈ v.holds, h.Sound) (hx : ∀ k : Fin 14, v.lastExpired[k] ≠ none → (v.stations[k]).kind = .till)
    (hk : ∀ x ∈ v.places, (v.entry x.2).kind = .till) (hp : v.places.Sublist u.places) : v.Sound := by
  obtain ⟨-, -, -, hl, hn, hq⟩ := hu
  refine ⟨he, hb, hx, hp.length_le.trans hl, hn.sublist (hp.map _), fun x hm => ⟨hk x hm, ?_⟩⟩
  exact ((hp.filter _).length_le).trans (hq x (hp.subset hm)).2

/-- Purses with the same hold stations, ACTIVE where there is one. -/
theorem Agree.same {l : List (Nat × Nat)} {ps qs : List Purse} (h : Agree l ps)
    (hto : ∀ p ∈ ps, p.holdStation ≠ none → ∃ q ∈ qs, q.card = p.card ∧ q.holdStation = p.holdStation)
    (hfrom : ∀ q ∈ qs, q.holdStation = none ∨
      ∃ p ∈ ps, p.card = q.card ∧ p.holdStation = q.holdStation ∧ (p.state = .active → q.state = .active)) : Agree l qs := by
  obtain ⟨hl, hp⟩ := h
  refine ⟨fun x hx => ?_, fun q hq => ?_⟩
  · obtain ⟨p, hm, hc, hs⟩ := hl x hx
    obtain ⟨q, hq, hqc, hqs⟩ := hto p hm (by rw [hs]; exact Option.some_ne_none _)
    exact ⟨q, hq, hqc.trans hc, hqs.trans hs⟩
  · rcases hfrom q hq with hn | ⟨p, hm, hc, hs, hact⟩
    · exact .inl hn
    · rw [← hs, ← hc]
      exact (hp p hm).imp_right fun ⟨ha, hk⟩ => ⟨hact ha, hk⟩

/-- The holds of some cards removed, and the hold stations of those cards made absent (R65). -/
theorem Agree.without {l m : List (Nat × Nat)} {ps qs : List Purse} (gone : Nat → Prop) (h : Agree l ps)
    (hl : ∀ x ∈ m, x ∈ l ∧ ¬ gone x.1) (hm : ∀ x ∈ l, ¬ gone x.1 → x ∈ m)
    (hto : ∀ p ∈ ps, ¬ gone p.card → p ∈ qs) (hfrom : ∀ q ∈ qs, q.holdStation = none ∨ q ∈ ps ∧ ¬ gone q.card) : Agree m qs := by
  obtain ⟨hplaces, hp⟩ := h
  refine ⟨fun x hx => ?_, fun q hq => ?_⟩
  · obtain ⟨hxl, hxg⟩ := hl x hx
    obtain ⟨p, hpm, hc, hs⟩ := hplaces x hxl
    exact ⟨p, hto p hpm (hc ▸ hxg), hc, hs⟩
  · rcases hfrom q hq with hn | ⟨hq, hg⟩
    · exact .inl hn
    · exact (hp q hq).imp_right fun ⟨ha, k, hk, hkm⟩ => ⟨ha, k, hk, hm _ hkm hg⟩

/-- One card's record changed, its card and hold station kept, and its state where it has a hold. -/
theorem modifyPurse_agree {s : State} {l : List (Nat × Nat)} {card : Nat} {f : Purse → Purse} (h : Agree l s.purses.purses)
    (hf : ∀ q ∈ s.purses.purses, q.card = card → (f q).card = q.card ∧ (f q).holdStation = q.holdStation ∧
      (q.holdStation ≠ none → q.state = .active → (f q).state = .active)) : Agree l (s.modifyPurse card f).purses.purses := by
  have hg : ∀ q ∈ s.purses.purses, ∀ g, g = (if q.card = card then f q else q) → g.card = q.card ∧
      g.holdStation = q.holdStation ∧ (q.holdStation ≠ none → q.state = .active → g.state = .active) := by
    rintro q hq g rfl
    split
    next hc => exact hf q hq hc
    next => exact ⟨rfl, rfl, fun _ => id⟩
  refine h.same (fun p hp _ => ⟨_, List.mem_map_of_mem hp, (hg p hp _ rfl).1, (hg p hp _ rfl).2.1⟩) fun q hq => ?_
  obtain ⟨p, hp, he⟩ := List.mem_map.1 hq
  obtain ⟨hc, hs, ha⟩ := hg p hp q he.symm
  by_cases hn : p.holdStation = none
  · exact .inl (hs.trans hn)
  · exact .inr ⟨p, hp, hc.symm, hs.symm, ha hn⟩

/-! ## The operations of the hold unit -/

theorem setEntry_sound {u : HoldUnit} {station : Nat} {e : StationEntry} (hu : ∀ e ∈ u.stations.toList, e.Sound) (he : e.Sound) :
    ∀ e' ∈ (u.stations.setIfInBounds (stationSlot station) e).toList, e'.Sound := by
  intro e' hm
  rw [Vector.toList_setIfInBounds] at hm
  rcases List.mem_or_eq_of_mem_set hm with hm | rfl
  · exact hu e' hm
  · exact he

theorem inRange_sound {e : StationEntry} (h : e.inRange = true) : e.Sound := by
  simpa [StationEntry.inRange, StationEntry.Sound, and_assoc] using h

/-- An entry whose kind is not NONE is one of the table. -/
theorem entry_mem {u : HoldUnit} {station : Nat} (h : (u.entry station).kind ≠ .none) : u.entry station ∈ u.stations.toList := by
  unfold HoldUnit.entry at h ⊢
  rw [← Vector.getElem?_toList] at h ⊢
  rcases he : u.stations.toList[stationSlot station]? with _ | e
  · rw [he] at h
    exact absurd rfl h
  · exact List.mem_of_getElem? he

/-- A hold at a station whose entry is in place. -/
theorem entry_slot (u : HoldUnit) (k : Fin 14) : u.entry (k.val + 1) = u.stations[k] := by
  simp [HoldUnit.entry, stationSlot]

theorem place_unique {u : HoldUnit} (hn : (u.places.map Prod.fst).Nodup) {g h : Hold} (hg : g ∈ u.holds) (hh : h ∈ u.holds)
    (hc : g.card = h.card) : g.station = h.station := by
  have hg' : (g.card, g.station) ∈ u.places := List.mem_map_of_mem hg
  have hh' : (h.card, h.station) ∈ u.places := List.mem_map_of_mem hh
  exact congrArg Prod.snd (List.inj_on_of_nodup_map hn hg' hh' hc)

theorem removeHolds_places (l : List Hold) (s : State) : (s.removeHolds l).holds.places.Sublist s.holds.places := by
  rw [removeHolds_eq]
  exact List.filter_sublist.map _

/-- The removal of open holds keeps the holds and the purses in agreement. -/
theorem removeHolds_agree {s : State} {l : List Hold} (hn : (s.holds.places.map Prod.fst).Nodup)
    (ha : Agree s.holds.places s.purses.purses) (hl : ∀ h ∈ l, h ∈ s.holds.holds) :
    Agree (s.removeHolds l).holds.places (s.removeHolds l).purses.purses := by
  rw [removeHolds_eq]
  refine ha.without (fun c => ∃ h ∈ l, h.card = c) (fun x hx => ?_) (fun x hx hg => ?_) (fun p hp hg => ?_) fun q hq => ?_
  · obtain ⟨h, hm, hc, hs⟩ := mem_places.1 hx
    obtain ⟨hm, hkeep⟩ := List.mem_filter.1 hm
    refine ⟨mem_places.2 ⟨h, hm, hc, hs⟩, fun ⟨g, hg, hgc⟩ => ?_⟩
    have hst := place_unique hn (hl g hg) hm (hgc.trans hc.symm)
    rw [Bool.not_eq_true', ← Bool.not_eq_true, List.any_eq_true] at hkeep
    exact hkeep ⟨g, hg, by simp [hgc, hc, hst]⟩
  · obtain ⟨h, hm, hc, hs⟩ := mem_places.1 hx
    refine mem_places.2 ⟨h, List.mem_filter.2 ⟨hm, ?_⟩, hc, hs⟩
    rw [Bool.not_eq_true', ← Bool.not_eq_true, List.any_eq_true]
    rintro ⟨g, hgl, hgh⟩
    rw [Bool.and_eq_true, beq_iff_eq] at hgh
    exact hg ⟨g, hgl, hgh.1.symm.trans hc⟩
  · refine List.mem_map.2 ⟨p, hp, if_neg ?_⟩
    rw [List.any_eq_true]
    rintro ⟨g, hgl, hgc⟩
    exact hg ⟨g, hgl, beq_iff_eq.1 hgc⟩
  · obtain ⟨p, hp, rfl⟩ := List.mem_map.1 hq
    split
    · exact .inl rfl
    next hany =>
      refine .inr ⟨hp, fun ⟨g, hgl, hgc⟩ => hany ?_⟩
      exact List.any_eq_true.2 ⟨g, hgl, beq_iff_eq.2 hgc⟩

theorem removeHolds_holdsSound {s : State} {l : List Hold} (hl : ∀ h ∈ l, h ∈ s.holds.holds) (hs : s.HoldsSound) :
    (s.removeHolds l).HoldsSound := by
  rw [holdsSound_iff] at hs ⊢
  obtain ⟨hu, ha, hunset⟩ := hs
  have hsub := removeHolds_places l s
  refine ⟨?_, removeHolds_agree hu.2.2.2.2.1 ha hl, fun he => ?_⟩
  · have hst : (s.removeHolds l).holds.stations = s.holds.stations := by rw [removeHolds_eq]
    have hlast : (s.removeHolds l).holds.lastExpired = s.holds.lastExpired := by rw [removeHolds_eq]
    have hmem : ∀ h ∈ (s.removeHolds l).holds.holds, h ∈ s.holds.holds := by
      rw [removeHolds_eq]
      exact fun h hm => (List.mem_filter.1 hm).1
    refine hu.sublist (hst ▸ hu.1) (fun h hm => hu.2.1 h (hmem h hm)) (by rw [hst, hlast]; exact hu.2.2.1)
      (fun x hx => ?_) hsub
    rw [HoldUnit.entry, hst]
    exact (hu.2.2.2.2.2 x (hsub.subset hx)).1
  · rw [removeHolds_eq] at he
    exact List.eq_nil_of_sublist_nil (hunset he ▸ hsub)

theorem removeHold_holdsSound {s : State} {card station : Nat} {h : Hold} (hh : s.hold? card station = some h)
    (hs : s.HoldsSound) : (s.removeHold card station).HoldsSound := by
  have hm := List.mem_of_find?_eq_some hh
  have heq := List.find?_some hh
  rw [Bool.and_eq_true, beq_iff_eq, beq_iff_eq] at heq
  obtain ⟨rfl, rfl⟩ := heq
  exact removeHolds_holdsSound (l := [h]) (fun g hg => List.mem_singleton.1 hg ▸ hm) hs

/-- A hold unit and an engine control left alone, with the purses in agreement as before. -/
theorem holdsSound_of_agree {s t : State} (hs : s.HoldsSound) (hh : t.holds = s.holds)
    (he : t.engine.state = .unset → s.engine.state = .unset) (ha : Agree s.holds.places s.purses.purses →
      Agree s.holds.places t.purses.purses) : t.HoldsSound := by
  rw [holdsSound_iff] at hs ⊢
  rw [hh]
  exact ⟨hs.1, ha hs.2.1, fun h => hs.2.2 (he h)⟩

theorem modifyPurse_holdsSound {s : State} {card : Nat} {f : Purse → Purse} (hs : s.HoldsSound)
    (hf : ∀ q ∈ s.purses.purses, q.card = card → (f q).card = q.card ∧ (f q).holdStation = q.holdStation ∧
      (q.holdStation ≠ none → q.state = .active → (f q).state = .active)) : (s.modifyPurse card f).HoldsSound :=
  holdsSound_of_agree hs rfl id fun ha => modifyPurse_agree ha hf

/-- A purse's named hold is open. -/
theorem hold_of_station {s : State} (hs : s.HoldsSound) {p : Purse} (hp : p ∈ s.purses.purses) {station : Nat}
    (h : p.holdStation = some station) : ∃ h, s.hold? p.card station = some h := by
  obtain ⟨-, -, -, -, hagree, -⟩ := hs
  rcases hagree p hp with hn | ⟨-, g, hg, hc, hst⟩
  · rw [hn] at h; cases h
  · rw [h, Option.some_inj] at hst
    refine Option.isSome_iff_exists.1 (List.find?_isSome.2 ⟨g, hg, ?_⟩)
    simp [hc, hst]

/-- A purse is blocked after its hold is gone (R17, R80). -/
theorem blockPurse_holdsSound {s : State} {p : Purse} (hp : s.purse? p.card = some p) (hps : s.PursesSound) (hs : s.HoldsSound) :
    (s.blockPurse p).1.HoldsSound := by
  unfold State.blockPurse
  split
  · exact hs
  split
  next hn =>
    refine modifyPurse_holdsSound hs fun q hq hc => ⟨rfl, rfl, fun hst => ?_⟩
    rw [card_unique hps hq (purse?_mem hp) hc] at hst
    exact absurd hn hst
  next station hst =>
    obtain ⟨h, hh⟩ := hold_of_station hs (purse?_mem hp) hst
    have hswap : (s.setPurseState p.card .blocked).removeHold p.card station =
        (s.removeHold p.card station).setPurseState p.card .blocked := by
      have hmap : ∀ l : List Purse,
          (l.map fun q => if q.card = p.card then { q with state := .blocked } else q).map
            (fun q => if q.card = p.card then { q with holdStation := none } else q) =
          (l.map fun q => if q.card = p.card then { q with holdStation := none } else q).map
            (fun q => if q.card = p.card then { q with state := .blocked } else q) := fun l => by
        rw [List.map_map, List.map_map]
        refine List.map_congr_left fun q _ => ?_
        by_cases hc : q.card = p.card <;> simp [hc]
      simp only [State.setPurseState, State.removeHold, State.setHoldStation, State.modifyPurse, State.setPurses_purses,
        State.setHolds_purses, State.setPurses_holds, hmap]
      rfl
    rw [hswap]
    refine modifyPurse_holdsSound (removeHold_holdsSound hh hs) fun q hq hc => ⟨rfl, rfl, fun hne => ?_⟩
    obtain ⟨r, -, rfl⟩ := List.mem_map.1 hq
    split at hc
    · rw [if_pos (by assumption)] at hne
      exact absurd rfl hne
    · exact absurd hc (by assumption)

/-- A till's entry written touches no hold (R61). -/
theorem setStation_holdsSound {s : State} {station : Nat} {e : StationEntry} (hr : e.inRange = true) (hk : e.kind = .till)
    (hs : s.HoldsSound) : (s.setStation station e).HoldsSound := by
  rw [holdsSound_iff] at hs ⊢
  obtain ⟨hu, ha, hunset⟩ := hs
  refine ⟨hu.sublist (setEntry_sound hu.1 (inRange_sound hr)) hu.2.1 (fun k hl => ?_) (fun x hx => ?_) (.refl _), ha, hunset⟩
  · have hold := hu.2.2.1 k hl
    simp only [State.setStation, State.setHolds_holds, Fin.getElem_fin, Vector.getElem_setIfInBounds]
    split
    · exact hk
    · exact hold
  · have hold := (hu.2.2.2.2.2 x hx).1
    simp only [State.setStation, State.setHolds_holds, HoldUnit.entry, Vector.getElem?_setIfInBounds] at hold ⊢
    split
    next heq =>
      split
      · exact hk
      next hlt =>
        rw [Vector.getElem?_eq_none (by omega)] at hold
        cases hold
    next => exact hold

/-- An entry written with every hold of its station released (R61). -/
theorem release_holdsSound {s : State} {station : Nat} {e : StationEntry} (h1 : 1 ≤ station) (h2 : station ≤ 14)
    (hr : e.inRange = true) (hs : s.HoldsSound) : ((s.setStation station e).releaseStation station).HoldsSound := by
  rw [holdsSound_iff] at hs ⊢
  obtain ⟨hu, ha, hunset⟩ := hs
  have hslot : stationSlot station = station - 1 := stationSlot_eq (by omega)
  have hqueue : ∀ h ∈ (s.setStation station e).queue station, h ∈ s.holds.holds := fun h hm => (List.mem_filter.1 hm).1
  have hsub : ((s.setStation station e).releaseStation station).holds.places.Sublist s.holds.places :=
    removeHolds_places _ (s.setStation station e)
  have hagree : Agree ((s.setStation station e).releaseStation station).holds.places
      ((s.setStation station e).releaseStation station).purses.purses :=
    removeHolds_agree (s := s.setStation station e) hu.2.2.2.2.1 ha hqueue
  have hgone : ∀ x ∈ ((s.setStation station e).releaseStation station).holds.places, x.2 ≠ station := by
    intro x hx hst
    rw [State.releaseStation, removeHolds_eq] at hx
    obtain ⟨h, hm, -, hs⟩ := mem_places.1 hx
    obtain ⟨hm, hkeep⟩ := List.mem_filter.1 hm
    rw [Bool.not_eq_true', ← Bool.not_eq_true, List.any_eq_true] at hkeep
    exact hkeep ⟨h, List.mem_filter.2 ⟨hm, by simp [hs, hst]⟩, by simp⟩
  refine ⟨?_, hagree, fun he => ?_⟩
  · rw [State.releaseStation, removeHolds_eq] at hsub hgone ⊢
    refine hu.sublist (setEntry_sound hu.1 (inRange_sound hr)) (fun h hm => hu.2.1 h (List.mem_filter.1 hm).1) (fun k hl => ?_)
      (fun x hx => ?_) hsub
    · simp only [State.setLastExpired, State.setHolds_holds, State.setStation, Fin.getElem_fin, Vector.getElem_setIfInBounds]
        at hl ⊢
      split
      next hk => exact absurd (if_pos hk) hl
      next hk =>
        rw [if_neg hk] at hl
        exact hu.2.2.1 k hl
    · have hold := (hu.2.2.2.2.2 x (hsub.subset hx)).1
      have hbounds := station_bounds (s := s) (station := x.2) (by rw [State.station]; exact hold ▸ by decide)
      have hne : stationSlot station ≠ stationSlot x.2 := by
        have := hgone x hx
        rw [hslot, stationSlot_eq (by omega)]
        omega
      simp only [State.setLastExpired, State.setHolds_holds, State.setStation, HoldUnit.entry, Vector.getElem?_setIfInBounds,
        if_neg hne]
      exact hold
  · rw [State.releaseStation, removeHolds_eq] at he
    exact List.eq_nil_of_sublist_nil (hunset he ▸ hsub)

/-- A last-expired card made absent. -/
theorem forget_holdsSound {s : State} (station : Nat) (hs : s.HoldsSound) : (s.setLastExpired station none).HoldsSound := by
  obtain ⟨he, hl, hn, hh, hp, hx, hu⟩ := hs
  refine ⟨he, hl, hn, hh, hp, fun k hk => hx k fun hnone => hk ?_, hu⟩
  simp only [State.setLastExpired, State.setHolds_holds, Fin.getElem_fin, Vector.getElem_setIfInBounds]
  split
  · rfl
  · exact hnone

/-- A hold at the tail of its station's queue, named by its purse (R70). -/
def State.withHold (s : State) (station card granted : Nat) : State :=
  (s.setHolds { s.holds with
    holds := s.holds.holds ++ [⟨card, station, granted, (s.station station).lifetime⟩] }).setHoldStation card (some station)

theorem openHold_eq (s : State) (station card granted : Nat) : s.openHold station card granted =
    if (s.withHold station card granted).lastExpired station = some card then
      (s.withHold station card granted).setLastExpired station none
    else s.withHold station card granted := rfl

theorem withHold_places (s : State) (station card granted : Nat) :
    (s.withHold station card granted).holds.places = s.holds.places ++ [(card, station)] := List.map_append

/-- A hold opened at the tail of a till's queue (R69, R70). -/
theorem openHold_holdsSound {s : State} {p : Purse} {station granted : Nat} (hp : s.purse? p.card = some p)
    (hact : p.state = .active) (hnone : p.holdStation = none) (htill : (s.station station).kind = .till)
    (hrun : s.engine.state = .running) (hquota : (s.queue station).length < (s.station station).quota)
    (hpool : s.holds.holds.length < 64) (hg : granted ≤ 99999) (hps : s.PursesSound) (hs : s.HoldsSound) :
    (s.openHold station p.card granted).HoldsSound := by
  suffices h : (s.withHold station p.card granted).HoldsSound by
    rw [openHold_eq]
    split
    · exact forget_holdsSound station h
    · exact h
  rw [holdsSound_iff] at hs ⊢
  obtain ⟨⟨he, hb, hx, hl, hn, hq⟩, ⟨hplaces, hpurses⟩, -⟩ := hs
  have hentry : (s.station station).Sound := he _ (entry_mem (by rw [State.station] at htill; exact htill ▸ by decide))
  have hadd := withHold_places s station p.card granted
  have hnew : ∀ k, (p.card, k) ∉ s.holds.places := fun k hk => by
    obtain ⟨q, hqm, hqc, hqs⟩ := hplaces _ hk
    rw [card_unique hps hqm (purse?_mem hp) hqc, hnone] at hqs
    cases hqs
  refine ⟨⟨he, fun h hm => ?_, hx, ?_, ?_, fun x hxm => ?_⟩, ⟨fun x hxm => ?_, fun q hqm => ?_⟩, fun hu => ?_⟩
  · rcases List.mem_append.1 hm with hm | hm
    · exact hb h hm
    · obtain rfl := List.mem_singleton.1 hm
      obtain ⟨-, h30, h900⟩ := hentry
      exact ⟨hg, by dsimp only; omega, h900⟩
  · rw [hadd, List.length_append]
    have : s.holds.places.length = s.holds.holds.length := List.length_map ..
    simp only [List.length_singleton]
    omega
  · rw [hadd, List.map_append]
    refine List.nodup_append.2 ⟨hn, List.nodup_singleton _, fun c hc d hd hcd => ?_⟩
    obtain ⟨y, hy, rfl⟩ := List.mem_map.1 hc
    obtain rfl := List.mem_singleton.1 hd
    exact hnew y.2 (by rw [show (p.card, y.2) = y from Prod.ext hcd.symm rfl]; exact hy)
  · rw [hadd] at hxm ⊢
    obtain ⟨hquota8, -⟩ := hentry
    rw [queue_length] at hquota
    have hkind : (s.holds.entry x.2).kind = .till := by
      rcases List.mem_append.1 hxm with hxm | hxm
      · exact (hq x hxm).1
      · obtain rfl := List.mem_singleton.1 hxm
        exact htill
    refine ⟨hkind, ?_⟩
    rw [List.filter_append, List.length_append, List.filter_singleton]
    by_cases hst : station = x.2
    · rw [← hst]
      simp only [beq_self_eq_true, cond_true, List.length_singleton]
      omega
    · rcases List.mem_append.1 hxm with hxm | hxm
      · have := (hq x hxm).2
        simpa [beq_false_of_ne hst] using this
      · obtain rfl := List.mem_singleton.1 hxm
        exact absurd rfl hst
  · rw [hadd] at hxm
    rcases List.mem_append.1 hxm with hxm | hxm
    · obtain ⟨q, hqm, hqc, hqs⟩ := hplaces x hxm
      have hne : q.card ≠ p.card := fun hc => hnew x.2 (by
        rw [show (p.card, x.2) = x from Prod.ext (hc.symm.trans hqc) rfl]; exact hxm)
      exact ⟨q, List.mem_map.2 ⟨q, hqm, if_neg hne⟩, hqc, hqs⟩
    · obtain rfl := List.mem_singleton.1 hxm
      exact ⟨_, List.mem_map.2 ⟨p, purse?_mem hp, if_pos rfl⟩, rfl, rfl⟩
  · rw [hadd]
    obtain ⟨r, hrm, rfl⟩ := List.mem_map.1 hqm
    split
    next hc =>
      obtain rfl := card_unique hps hrm (purse?_mem hp) hc
      exact .inr ⟨hact, station, rfl, List.mem_append_right _ (List.mem_singleton.2 rfl)⟩
    next =>
      exact (hpurses r hrm).imp_right fun ⟨ha, k, hk, hm⟩ => ⟨ha, k, hk, List.mem_append_left _ hm⟩
  · exact absurd (hrun.symm.trans hu) (by decide)

theorem refreshHold_holdsSound {s : State} {station card granted : Nat} (htill : (s.station station).kind = .till)
    (hg : granted ≤ 99999) (hs : s.HoldsSound) : (s.refreshHold station card granted).HoldsSound := by
  rw [holdsSound_iff] at hs ⊢
  have hplaces : (s.refreshHold station card granted).holds.places = s.holds.places := by
    refine (List.map_map ..).trans (List.map_congr_left fun h _ => ?_)
    simp only [Function.comp]
    split <;> rfl
  rw [hplaces]
  obtain ⟨hu, hrest⟩ := hs
  have hentry : (s.station station).Sound := hu.1 _ (entry_mem (by rw [State.station] at htill; exact htill ▸ by decide))
  refine ⟨hu.sublist hu.1 (fun h hm => ?_) hu.2.2.1 (fun x hx => ?_) (hplaces ▸ .refl _), hrest⟩
  · obtain ⟨g, hgm, rfl⟩ := List.mem_map.1 hm
    split
    · obtain ⟨-, h30, h900⟩ := hentry
      exact ⟨hg, by dsimp only; omega, h900⟩
    · exact hu.2.1 g hgm
  · rw [hplaces] at hx
    exact (hu.2.2.2.2.2 x hx).1

theorem holdTick_holdsSound {s : State} (hs : s.HoldsSound) : s.holdTick.HoldsSound := by
  by_cases hr : s.engine.state = .running
  case neg =>
    rw [State.holdTick, if_neg hr]
    exact hs
  rw [holdTick_eq hs hr]
  have hsound := hs
  rw [holdsSound_iff] at hs ⊢
  obtain ⟨hu, ha, -⟩ := hs
  set t : List Hold := (s.holds.holds.filter (fun h : Hold => decide (2 ≤ h.remaining))).map
    (fun h : Hold => { h with remaining := h.remaining - 1 }) with ht
  have hfrom : ∀ h ∈ t, ∃ g ∈ s.holds.holds, 2 ≤ g.remaining ∧ h = { g with remaining := g.remaining - 1 } := fun h hm => by
    obtain ⟨g, hgm, he⟩ := List.mem_map.1 hm
    obtain ⟨hgm, hrem⟩ := List.mem_filter.1 hgm
    exact ⟨g, hgm, of_decide_eq_true hrem, he.symm⟩
  have hsub : (HoldUnit.mk s.holds.stations t s.holds.lastExpired).places.Sublist s.holds.places := by
    rw [HoldUnit.places, ht, List.map_map]
    exact List.filter_sublist.map _
  have hsame : ∀ x, x ∈ (HoldUnit.mk s.holds.stations t s.holds.lastExpired).places ↔
      ∃ h ∈ s.holds.holds, 2 ≤ h.remaining ∧ h.card = x.1 ∧ h.station = x.2 := fun x => by
    rw [mem_places]
    constructor
    · rintro ⟨h, hm, hc, hst⟩
      obtain ⟨g, hgm, hrem, rfl⟩ := hfrom h hm
      exact ⟨g, hgm, hrem, hc, hst⟩
    · rintro ⟨h, hm, hrem, hc, hst⟩
      exact ⟨_, List.mem_map.2 ⟨h, List.mem_filter.2 ⟨hm, decide_eq_true hrem⟩, rfl⟩, hc, hst⟩
  refine ⟨hu.sublist hu.1 (fun h hm => ?_) (fun k hk => ?_) (fun x hx => ?_) hsub, ?_, fun he => ?_⟩
  · obtain ⟨g, hgm, hrem, rfl⟩ := hfrom h hm
    obtain ⟨h1, h2, h3⟩ := hu.2.1 g hgm
    exact ⟨h1, by dsimp only; omega, by dsimp only; omega⟩
  · simp only [Fin.getElem_fin, Vector.getElem_ofFn] at hk
    split at hk
    next h hlast =>
      obtain ⟨hm, hst⟩ := List.mem_filter.1 (List.mem_of_getLast? hlast)
      have htill := (hu.2.2.2.2.2 _ (List.mem_map_of_mem hm)).1
      dsimp only at htill
      rw [(of_decide_eq_true hst).1] at htill
      exact (entry_slot s.holds k) ▸ htill
    next => exact hu.2.2.1 k hk
  · exact (hu.2.2.2.2.2 x (hsub.subset hx)).1
  · refine ha.without (fun c => ∃ h ∈ s.holds.holds, h.card = c ∧ h.remaining ≤ 1) (fun x hx => ?_) (fun x hx hg => ?_)
      (fun p hp hg => List.mem_map.2 ⟨p, hp, if_neg hg⟩) fun q hq => ?_
    · refine ⟨hsub.subset hx, fun ⟨g, hgm, hgc, hrem⟩ => ?_⟩
      obtain ⟨h, hm, hrem', hc, -⟩ := (hsame x).1 hx
      rw [hold_unique hsound hgm hm (hgc.trans hc.symm)] at hrem
      omega
    · obtain ⟨h, hm, hc, hst⟩ := mem_places.1 hx
      refine (hsame x).2 ⟨h, hm, ?_, hc, hst⟩
      by_contra hlt
      exact hg ⟨h, hm, hc, by omega⟩
    · obtain ⟨p, hp, rfl⟩ := List.mem_map.1 hq
      split
      · exact .inl rfl
      next hg => exact .inr ⟨hp, hg⟩
  · exact absurd (hr.symm.trans he) (by decide)

/-! ## The invariant -/

theorem appendRecord_engine (s : State) (source : Nat) (body : RecordBody) : (s.appendRecord source body).engine = s.engine := by
  rw [appendRecord_eq]
  rfl

theorem Money.holds_engine {s t : State} (h : Money s t) : t.holds = s.holds ∧ t.engine = s.engine := by
  cases h with
  | enrol | retire | adjust => exact ⟨appendRecord_holds _ _ _, appendRecord_engine _ _ _⟩
  | credit p amount source body => exact ⟨appendRecord_holds _ source _, appendRecord_engine _ source _⟩
  | charge p gross kept station => exact ⟨appendRecord_holds _ station _, appendRecord_engine _ station _⟩
  | dayMark d =>
    unfold State.writeDayMark
    split
    · exact ⟨appendRecord_holds s 0 _, appendRecord_engine s 0 _⟩
    · exact ⟨rfl, rfl⟩
  | classSet => exact ⟨rfl, rfl⟩

/-- A change of the money keeps the cards with a hold, and their stations. -/
theorem Money.agree {s t : State} (h : Money s t) (hps : s.PursesSound) (ha : Agree s.holds.places s.purses.purses) :
    Agree s.holds.places t.purses.purses := by
  cases h with
  | enrol card cls opening =>
    rw [appendRecord_purses]
    refine ha.same (fun p hp _ => ⟨p, mem_insertPurse.2 (.inr hp), rfl, rfl⟩) fun q hq => ?_
    rcases mem_insertPurse.1 hq with rfl | hq
    · exact .inl rfl
    · exact .inr ⟨q, hq, rfl, rfl, id⟩
  | retire p hp hn =>
    rw [appendRecord_purses]
    refine ha.same (fun q hq hne => ⟨q, List.mem_filter.2 ⟨hq, ?_⟩, rfl, rfl⟩) fun q hq =>
      .inr ⟨q, (List.mem_filter.1 hq).1, rfl, rfl, id⟩
    rw [Bool.not_eq_true', beq_eq_false_iff_ne]
    intro hc
    rw [card_unique hps hq (purse?_mem hp) hc] at hne
    exact hne hn
  | adjust p amount =>
    rw [appendRecord_purses]
    exact modifyPurse_agree (s := s) ha fun _ _ _ => ⟨rfl, rfl, fun _ => id⟩
  | credit p amount source body =>
    rw [State.applyCredit, appendRecord_purses]
    exact modifyPurse_agree (s := s) ha fun _ _ _ => ⟨rfl, rfl, fun _ => id⟩
  | charge p gross kept station =>
    rw [State.applyCharge, appendRecord_purses]
    exact modifyPurse_agree (s := s) ha fun _ _ _ => ⟨rfl, rfl, fun _ => id⟩
  | dayMark d =>
    unfold State.writeDayMark
    split
    · rw [State.resetTotals, State.setPurses_purses, appendRecord_purses]
      exact ha
    · exact ha
  | classSet => exact ha

theorem Change.holdsSound {s t : State} (h : Change s t) (hps : s.PursesSound) (hs : s.HoldsSound) : t.HoldsSound := by
  cases h with
  | money h =>
    obtain ⟨hh, he⟩ := h.holds_engine
    exact holdsSound_of_agree hs hh (he ▸ id) (h.agree hps)
  | block p hp => exact blockPurse_holdsSound hp hps hs
  | unblock card => exact modifyPurse_holdsSound hs fun _ _ _ => ⟨rfl, rfl, fun _ _ => rfl⟩
  | reclass card cls => exact modifyPurse_holdsSound hs fun _ _ _ => ⟨rfl, rfl, fun _ => id⟩
  | station station e hr hk => exact setStation_holdsSound hr hk hs
  | release station e h1 h2 hr => exact release_holdsSound h1 h2 hr hs
  | openHold p station g hp ha hn hk he hq hpool hg => exact openHold_holdsSound hp ha hn hk he hq hpool hg hps hs
  | refreshHold station card g hk hg => exact refreshHold_holdsSound hk hg hs
  | removeHold card station h hh => exact removeHold_holdsSound hh hs
  | forget station => exact forget_holdsSound station hs
  | holdTick => exact holdTick_holdsSound hs
  | settings mark reload =>
    rw [reportBegin_eq, lowerJournal_eq]
    exact hs
  | journalTick =>
    unfold State.journalTick
    split
    · rw [reportBegin_eq]
      exact hs
    · exact hs
  | engine e _ he => exact holdsSound_of_agree hs rfl (fun hu => he.elim (fun hiff => hiff.1 hu) fun hne => absurd hu hne.1) id
  | time | batch | cursor | lane | port | attention | ticks => exact hs

/-- A warm start leaves no hold (R84). -/
theorem warmBlocks_holdsSound {s : State} (cause : StartCause) (hs : s.HoldsSound) : (s.warmBlocks cause).HoldsSound := by
  refine ⟨hs.1, Nat.zero_le _, List.nodup_nil, fun h hm => (List.not_mem_nil hm).elim, fun p hp => .inl ?_, fun k hk => ?_,
    fun _ => rfl⟩
  · obtain ⟨q, -, rfl⟩ := List.mem_map.1 hp
    rfl
  · exact absurd (by simp [State.warmBlocks, HoldUnit.warm, HoldUnit.cold]) hk

theorem warmStart_holdsSound {s : State} (cause : StartCause) (hps : s.PursesSound) (hs : s.HoldsSound) :
    (s.warmStart cause).HoldsSound := by
  have hwarm := warmBlocks_holdsSound cause hs
  have hwps := (warmBlocks_quiet s cause).pursesSound hps
  change (s.warmBlocks cause).catchUp.HoldsSound
  unfold State.catchUp
  split
  · exact hwarm
  · exact (Change.money (.dayMark _ _)).holdsSound hwps hwarm

theorem reset_holdsSound : State.reset.HoldsSound := by
  have hcold : HoldUnit.cold.stations.toList = List.replicate 14 StationEntry.cold := by simp [HoldUnit.cold]
  refine ⟨fun e he => ?_, Nat.zero_le _, List.nodup_nil, fun h hm => (List.not_mem_nil hm).elim,
    fun p hp => (List.not_mem_nil hp).elim, fun k hk => ?_, fun _ => rfl⟩
  · obtain rfl := List.eq_of_mem_replicate (hcold ▸ he : e ∈ List.replicate 14 StationEntry.cold)
    decide
  · exact absurd (by simp [State.reset, HoldUnit.cold]) hk

/-- Settles O52: every removal of a hold makes the hold station of its card absent, a hold is opened for an ACTIVE purse without
one at a till with room, and a purse is blocked or dropped only without a hold. -/
theorem holdsAgreeWithPurses : Obligations.HoldsAgreeWithPurses := by
  refine fun s t hp hh h => (step_keeps (P := fun s => s.PursesSound ∧ s.HoldsSound) (fun _ _ _ _ _ hs => hs)
    (fun _ _ h hs => ⟨h.pursesSound hs.1, h.holdsSound hs.1 hs.2⟩) (fun s _ k _ hs => ?_)
    (fun s cause hs => ⟨warmStart_pursesSound cause hs.1, warmStart_holdsSound cause hs.1 hs.2⟩)
    (fun _ => ⟨reset_pursesSound, reset_holdsSound⟩) ⟨hp, hh⟩ h).2
  rw [lowerJournal_eq]
  exact hs

end Sys2Proof.Machine
end

/-! # Every change of a balance is recorded (O58) -/

section
namespace Sys2Proof.Machine

/-- The sum of the amounts of a card's records. -/
def amountsOf (card : Nat) (l : List Record) : Int :=
  ((l.filter fun r => decide (r.body.card = card)).map fun r => r.body.amount).sum

theorem amountsOf_append (card : Nat) (l m : List Record) : amountsOf card (l ++ m) = amountsOf card l + amountsOf card m := by
  simp only [amountsOf, List.filter_append, List.map_append, List.sum_append]

/-- The records appended between two states account for the changes of the balances and of the float total (R10, R13, R124). -/
structure Accounted (s t : State) (added : List Record) : Prop where
  records : t.journal.records = s.journal.records ++ added
  numbers : consecutive (added.map Record.seq ++ [t.journal.nextSeq]) = true
  first : (added.map Record.seq ++ [t.journal.nextSeq]).head? = some s.journal.nextSeq
  balances : ∀ card, t.balanceOf card = s.balanceOf card + amountsOf card added
  after : ∀ older newer r, added = older ++ r :: newer → r.body.card ≠ 0 →
    r.body.after = s.balanceOf r.body.card + amountsOf r.body.card (older ++ [r])
  float : t.purses.floatTotal = s.purses.floatTotal + (added.map fun r => r.body.amount).sum

/-- A series that ends with the number another begins with goes on as the other. -/
theorem consecutive_join {l m : List Nat} {n : Nat} (hl : consecutive (l ++ [n]) = true) (hm : consecutive (n :: m) = true) :
    consecutive (l ++ n :: m) = true := by
  induction l with
  | nil => exact hm
  | cons a l ih =>
    have htail := ih (consecutive_tail hl)
    cases l with
    | nil =>
      simp only [List.cons_append, List.nil_append, consecutive, Bool.and_eq_true] at hl ⊢
      exact ⟨hl.1, htail⟩
    | cons b l =>
      simp only [List.cons_append, consecutive, Bool.and_eq_true] at hl htail ⊢
      exact ⟨hl.1, htail⟩

theorem Accounted.trans {s t u : State} {a b : List Record} (h : Accounted s t a) (k : Accounted t u b) :
    Accounted s u (a ++ b) where
  records := by rw [k.records, h.records, List.append_assoc]
  numbers := by
    obtain ⟨m, hm⟩ := List.head?_eq_some_iff.1 k.first
    rw [List.map_append, List.append_assoc, hm]
    exact consecutive_join h.numbers (hm ▸ k.numbers)
  first := by
    obtain ⟨m, hm⟩ := List.head?_eq_some_iff.1 k.first
    rw [List.map_append, List.append_assoc, hm, ← h.first]
    cases a <;> rfl
  balances card := by rw [k.balances, h.balances, amountsOf_append, add_assoc]
  after older newer r he hc := by
    rcases List.append_eq_append_iff.1 he with ⟨o, rfl, hb⟩ | ⟨n, ha, hb⟩
    · simp only [k.after o newer r hb hc, h.balances, amountsOf_append, add_assoc]
    · cases n with
      | nil =>
        rw [List.append_nil] at ha
        subst ha
        rw [k.after [] newer r hb.symm hc, h.balances, List.nil_append, amountsOf_append, add_assoc]
      | cons x n =>
        obtain ⟨rfl, -⟩ := List.cons_eq_cons.1 hb
        exact h.after older n r ha hc
  float := by rw [k.float, h.float, List.map_append, List.sum_append, add_assoc]

theorem balanceOf_eq (s : State) (card : Nat) : s.balanceOf card = ((s.purse? card).map Purse.balance).getD 0 := rfl

/-- A quiet change leaves every balance. -/
theorem State.Quiet.balanceOf {s t : State} (h : s.Quiet t) (card : Nat) : t.balanceOf card = s.balanceOf card := by
  obtain ⟨⟨f, hf, hp⟩, -⟩ := h
  have hfind : t.purse? card = (s.purse? card).map f := by
    rw [State.purse?, hp, List.find?_map]
    exact congrArg _ (congrArg (List.find? · _) (funext fun q => by rw [Function.comp, (hf q).1]))
  rw [balanceOf_eq, balanceOf_eq, hfind]
  cases s.purse? card with
  | none => rfl
  | some p => exact (hf p).2.1

/-- Where no balance, no total and no record moves, nothing is to be accounted for. -/
theorem Accounted.still {s t : State} (hb : ∀ card, t.balanceOf card = s.balanceOf card)
    (hf : t.purses.floatTotal = s.purses.floatTotal) (hr : t.journal.records = s.journal.records)
    (hn : t.journal.nextSeq = s.journal.nextSeq) : Accounted s t [] where
  records := by rw [hr, List.append_nil]
  numbers := rfl
  first := congrArg some hn
  balances card := (hb card).trans (Int.add_zero _).symm
  after older newer r he := by simp at he
  float := hf.trans (Int.add_zero _).symm

theorem Accounted.unmoved {s t : State} (hp : t.purses.purses = s.purses.purses)
    (hf : t.purses.floatTotal = s.purses.floatTotal) (hr : t.journal.records = s.journal.records)
    (hn : t.journal.nextSeq = s.journal.nextSeq) : Accounted s t [] :=
  .still (fun card => by rw [balanceOf_eq, balanceOf_eq, State.purse?, State.purse?, hp]) hf hr hn

theorem State.Quiet.accounted {s t : State} (h : s.Quiet t) : Accounted s t [] := by
  obtain ⟨⟨f, -, hp⟩, hr, hn⟩ := id h
  exact .still h.balanceOf (by rw [hp]) hr hn

/-- A change of the balances with the record appended that says it. -/
theorem appendRecord_accounted {s u : State} (source : Nat) {body : RecordBody} (hj : u.journal = s.journal)
    (hbal : ∀ card, u.balanceOf card = s.balanceOf card + if body.card = card then body.amount else 0)
    (hafter : body.card ≠ 0 → body.after = s.balanceOf body.card + body.amount)
    (hfloat : u.purses.floatTotal = s.purses.floatTotal + body.amount) : ∃ added, Accounted s (u.appendRecord source body) added := by
  rw [appendRecord_eq]
  have hone : ∀ r : Record, r.body = body → ∀ card, amountsOf card [r] = if body.card = card then body.amount else 0 := by
    rintro r rfl card
    by_cases hc : r.body.card = card <;> simp [amountsOf, hc]
  refine ⟨[⟨u.journal.nextSeq, source, u.time.minute, u.time.day, body⟩], ?_, ?_, ?_, fun card => ?_, ?_, ?_⟩
  · rw [← hj]
    rfl
  · simp [consecutive, State.withRecord]
  · rw [← hj]
    rfl
  · rw [hone _ rfl]
    exact hbal card
  · rintro older newer r he hc
    cases older with
    | nil =>
      obtain ⟨rfl, -⟩ := List.cons_eq_cons.1 he
      rw [List.nil_append, hone _ rfl, if_pos rfl]
      exact hafter hc
    | cons x older => simp at he
  · rw [List.map_singleton, List.sum_singleton]
    exact hfloat

/-- The balances after a change of one card's record by `z`. -/
theorem modifyPurse_balanceOf {s : State} {p : Purse} {f : Purse → Purse} {z : Int} (hp : s.purse? p.card = some p)
    (hc : ∀ q, (f q).card = q.card) (hz : (f p).balance = p.balance + z) (card : Nat) :
    (s.modifyPurse p.card f).balanceOf card = s.balanceOf card + if p.card = card then z else 0 := by
  rw [balanceOf_eq, balanceOf_eq, modifyPurse_purse? s p.card card f hc]
  by_cases hcard : card = p.card
  · rw [hcard, if_pos rfl, if_pos rfl, hp]
    exact hz
  · rw [if_neg hcard, if_neg (Ne.symm hcard), Int.add_zero]

theorem balanceOf_some {s : State} {card : Nat} {p : Purse} (h : s.purse? card = some p) : s.balanceOf card = p.balance := by
  rw [balanceOf_eq, h]
  rfl

theorem balanceOf_none {s : State} {card : Nat} (h : s.purse? card = none) : s.balanceOf card = 0 := by
  rw [balanceOf_eq, h]
  rfl

/-- A new card's record found. -/
theorem insertPurse_find {p : Purse} {l : List Purse} (hn : ∀ q ∈ l, q.card ≠ p.card) (card : Nat) :
    (insertPurse p l).find? (fun q => q.card == card) = if p.card = card then some p else l.find? (fun q => q.card == card) := by
  induction l with
  | nil => by_cases hc : p.card = card <;> simp [insertPurse, hc]
  | cons q l ih =>
    have htail := ih fun r hr => hn r (List.mem_cons_of_mem _ hr)
    have hne := hn q (List.mem_cons_self ..)
    unfold insertPurse
    split
    · by_cases hc : p.card = card <;> simp [List.find?_cons, hc]
    · rw [List.find?_cons, htail, List.find?_cons]
      by_cases hq : q.card = card
      · have hpc : p.card ≠ card := fun h => hne (hq.trans h.symm)
        simp [hq, hpc]
      · simp [beq_false_of_ne hq]

/-- Every change of the money appends the record that says it, if it moves any. -/
theorem Money.accounted {s t : State} (h : Money s t) : ∃ added, Accounted s t added := by
  cases h with
  | enrol card cls opening _ _ _ hn =>
    have hfind : ∀ c, (insertPurse (Purse.enrolled card cls opening) s.purses.purses).find? (fun q => q.card == c) =
        if card = c then some (Purse.enrolled card cls opening) else s.purse? c :=
      insertPurse_find (purse?_none_iff.1 hn)
    refine appendRecord_accounted 0 rfl (fun c => ?_) (fun _ => ?_) rfl
    · change (((insertPurse (Purse.enrolled card cls opening) s.purses.purses).find? fun q => q.card == c).map
        Purse.balance).getD 0 = s.balanceOf c + if card = c then (opening : Int) else 0
      rw [hfind]
      by_cases hc : card = c
      · subst hc
        rw [if_pos rfl, if_pos rfl, balanceOf_none hn, Int.zero_add]
        rfl
      · rw [if_neg hc, if_neg hc, Int.add_zero]
        rfl
    · change (opening : Int) = s.balanceOf card + opening
      rw [balanceOf_none hn, Int.zero_add]
  | retire p hp _ =>
    refine appendRecord_accounted 0 rfl (fun c => ?_) (fun _ => ?_) rfl
    · change (((s.purses.purses.filter fun q => !(q.card == p.card)).find? fun q => q.card == c).map
        Purse.balance).getD 0 = s.balanceOf c + if p.card = c then -p.balance else 0
      rw [List.find?_filter]
      by_cases hc : p.card = c
      · subst hc
        rw [if_pos rfl, balanceOf_some hp, Int.add_right_neg, List.find?_eq_none.2 (fun q _ => by simp)]
        rfl
      · rw [if_neg hc, Int.add_zero, balanceOf_eq, State.purse?]
        congr 3
        funext q
        by_cases hq : q.card = c <;> simp [hq, Ne.symm hc]
    · change (0 : Int) = s.balanceOf p.card + -p.balance
      rw [balanceOf_some hp, Int.add_right_neg]
  | adjust p amount hp =>
    exact appendRecord_accounted 0 rfl
      (modifyPurse_balanceOf (f := fun q => { q with balance := q.balance + amount }) hp (fun _ => rfl) rfl)
      (fun _ => congrArg (· + amount) (balanceOf_some hp).symm) rfl
  | credit p amount source body hp _ _ hbody =>
    obtain ⟨hc, ha, hb⟩ := hbody (p.balance + amount)
    refine appendRecord_accounted source rfl (fun c => ?_) (fun _ => ?_) ?_
    · rw [hc, ha]
      exact modifyPurse_balanceOf (f := fun q => { q with balance := q.balance + amount }) hp (fun _ => rfl) rfl c
    · rw [hc, ha, hb, balanceOf_some hp]
    · rw [ha]
      rfl
  | charge p gross kept station hp =>
    exact appendRecord_accounted station rfl
      (modifyPurse_balanceOf (f := fun q => q.charged (s.chargeOf p gross) s.time.day) hp (fun _ => rfl) Int.sub_eq_add_neg)
      (fun _ => congrArg (· + -((s.chargeOf p gross).net : Int)) (balanceOf_some hp).symm) rfl
  | dayMark d =>
    unfold State.writeDayMark
    split
    · obtain ⟨added, h⟩ := appendRecord_accounted (s := s) (u := s) 0
        (body := .dayMark s.purses.firstDay d s.purses.floatTotal s.purses.debitTotal s.purses.subsidyTotal s.purses.creditTotal)
        rfl (fun _ => by simp [RecordBody.amount]) (fun hc => absurd rfl hc) (Int.add_zero _).symm
      exact ⟨added, List.append_nil added ▸ h.trans (.unmoved rfl rfl rfl rfl)⟩
    · exact ⟨[], .unmoved rfl rfl rfl rfl⟩
  | classSet => exact ⟨[], .unmoved rfl rfl rfl rfl⟩

theorem Change.accounted {s t : State} (h : Change s t) : ∃ added, Accounted s t added :=
  h.money_or_quiet.elim Money.accounted fun h => ⟨[], h.accounted⟩

theorem changes_accounted {s t : State} (h : Changes s t) : ∃ added, Accounted s t added := by
  induction h with
  | refl => exact ⟨[], .unmoved rfl rfl rfl rfl⟩
  | tail _ h ih =>
    obtain ⟨a, ha⟩ := ih
    obtain ⟨b, hb⟩ := h.accounted
    exact ⟨a ++ b, ha.trans hb⟩

theorem warmStart_accounted (s : State) (cause : StartCause) : ∃ added, Accounted s (s.warmStart cause) added := by
  obtain ⟨u, v, hu, -, hv, ht⟩ := warmStart_steps s cause
  rcases hv with rfl | hv
  · exact ⟨[], (hu.trans ht).accounted⟩
  · obtain ⟨a, ha⟩ := hv.accounted
    exact ⟨[] ++ a ++ [], (hu.accounted.trans ha).trans ht.accounted⟩

/-- The records appended after the oldest ones are removed account for the changes; a removal comes alone (R133). -/
def Recorded (s t : State) : Prop :=
  ∃ removed kept added : List Record, s.journal.records = removed ++ kept ∧
    Accounted { s with journal := { s.journal with records := kept } } t added

theorem Accounted.recorded {s t : State} {added : List Record} (h : Accounted s t added) : Recorded s t :=
  ⟨[], s.journal.records, added, rfl, h⟩

theorem Recorded.same {s t : State} (hp : t.purses.purses = s.purses.purses) (hf : t.purses.floatTotal = s.purses.floatTotal)
    (hr : t.journal.records = s.journal.records) (hn : t.journal.nextSeq = s.journal.nextSeq) : Recorded s t :=
  (Accounted.unmoved hp hf hr hn).recorded

/-- A state with the same purses and journal has the same books. -/
theorem Recorded.congr {s t u v : State} (h : Recorded s t) (hsp : u.purses = s.purses) (hsj : u.journal = s.journal)
    (htp : v.purses = t.purses) (htj : v.journal = t.journal) : Recorded u v := by
  obtain ⟨removed, kept, added, hr, ha⟩ := h
  refine ⟨removed, kept, added, hsj ▸ hr, ?_⟩
  have hback : Accounted { u with journal := { u.journal with records := kept } }
      { s with journal := { s.journal with records := kept } } [] := .unmoved (by rw [← hsp]) (by rw [← hsp]) rfl (by rw [← hsj])
  have hon : Accounted t v [] := .unmoved (by rw [htp]) (by rw [htp]) (by rw [htj]) (by rw [htj])
  exact List.append_nil added ▸ (hback.trans ha).trans hon

theorem Work.recorded {s t : State} (h : Work s t) : Recorded s t := by
  cases h with
  | changes h =>
    obtain ⟨added, ha⟩ := changes_accounted h
    exact ha.recorded
  | confirm seq k =>
    rw [lowerJournal_eq]
    exact ⟨s.journal.records.take k, s.journal.records.drop k, [], (List.take_append_drop ..).symm, .unmoved rfl rfl rfl rfl⟩
  | restart => exact .same rfl rfl rfl rfl

theorem Event.recorded {s t : State} (h : Event s t) : Recorded s t := by
  cases h with
  | changes h =>
    obtain ⟨added, ha⟩ := changes_accounted h
    exact ha.recorded
  | answered a _ hw => exact (hw.recorded (s := s.officeSeek)).congr rfl rfl rfl rfl
  | office | supply => exact .same rfl rfl rfl rfl
  | warmStart v n cause =>
    obtain ⟨added, ha⟩ := warmStart_accounted ((s.setSupply v).setOpenChoices n) cause
    exact ha.recorded.congr rfl rfl rfl rfl

/-- Settles O58: a change of the money appends the record that says it, every other change is quiet, and a confirmation removes only
the oldest records. -/
theorem everyChangeIsRecorded : Obligations.EveryChangeIsRecorded := by
  intro s t c _ h hcold
  obtain ⟨u, hu, he⟩ := exec_event c s
  obtain rfl : u = t := Host.Outcome.next.inj (hu.symm.trans h)
  rcases he with he | ⟨hc, hlost, -⟩
  · obtain ⟨removed, kept, added, hr, ha⟩ := he.recorded
    exact ⟨removed, kept, added, hr, ha.records, ha.numbers, ha.first, ha.balances, ha.after, ha.float⟩
  · rw [hcold hc] at hlost
    cases hlost

end Sys2Proof.Machine
end

/-! # The purse store commands BLOCK, PURSE_READ, PURSE_NEXT and CLASS_SET (O5, O8, O9) -/

section
namespace Sys2Proof.Machine

theorem purse?_of_mem {s : State} (hs : s.PursesSound) {p : Purse} (hp : p ∈ s.purses.purses) : s.purse? p.card = some p := by
  cases h : s.purse? p.card with
  | none => exact absurd rfl (purse?_none_iff.1 h p hp)
  | some q => rw [card_unique hs (purse?_mem h) hp (purse?_card h)]

/-! ## BLOCK -/

theorem blockPurse_blocked {s : State} {p : Purse} (h : p.state = .blocked) : s.blockPurse p = (s, .ok (blockReply 0 0)) :=
  if_pos h

theorem blockPurse_unheld {s : State} {p : Purse} (h : p.state ≠ .blocked) (hn : p.holdStation = none) :
    s.blockPurse p = (s.setPurseState p.card .blocked, .ok (blockReply 0 0)) := by
  rw [State.blockPurse, if_neg h, hn]

theorem blockPurse_held {s : State} {p : Purse} {station : Nat} (h : p.state ≠ .blocked) (hn : p.holdStation = some station) :
    s.blockPurse p = ((s.setPurseState p.card .blocked).removeHold p.card station, .ok (blockReply station (s.heldAmount p))) := by
  rw [State.blockPurse, if_neg h, hn]

/-- The record of a card blocked and its hold removed, in one. -/
theorem blocked_removeHold_eq (s : State) (card station : Nat) :
    (s.setPurseState card .blocked).removeHold card station = { s with
      purses := { s.purses with purses := s.purses.purses.map (fun q : Purse =>
        if q.card = card then { q with state := .blocked, holdStation := none } else q) }
      holds := { s.holds with
        holds := s.holds.holds.filter (fun h : Hold => decide (¬ (h.card = card ∧ h.station = station))) } } := by
  have hmap : ∀ l : List Purse, (l.map fun q : Purse => if q.card = card then { q with state := .blocked } else q).map
      (fun q : Purse => if q.card = card then { q with holdStation := none } else q) =
      l.map fun q : Purse => if q.card = card then { q with state := .blocked, holdStation := none } else q := fun l => by
    rw [List.map_map]
    refine List.map_congr_left fun q _ => ?_
    by_cases hc : q.card = card <;> simp [hc]
  rw [removeHold_eq, ← hmap]
  rfl

/-- Settles O5 (R17, R80): the three cases of the purse's state and hold station. -/
theorem blockResult : Obligations.BlockResult := by
  intro s card hopen h1 h2
  change Host.Outcome.next (s.takeCommand (blockWork _)) = _
  rw [blockWork, cardBody_spelled h1 h2, withBody_some]
  refine congrArg _ ?_
  cases hp : s.purse? card with
  | none => exact takeCommand_withPurse_none hopen hp _
  | some p =>
    obtain rfl := purse?_card hp
    rw [takeCommand_withPurse_some hopen hp]
    dsimp only
    split
    next hb => exact takeCommand_effect hopen (blockPurse_blocked hb)
    next hb =>
      cases hst : p.holdStation with
      | none => exact takeCommand_effect hopen (blockPurse_unheld hb hst)
      | some station =>
        refine takeCommand_effect hopen ((blockPurse_held hb hst).trans ?_)
        rw [blocked_removeHold_eq]
        rfl

/-! ## PURSE_READ and PURSE_NEXT -/

/-- The 25 bytes of a purse record (R182). -/
theorem purseAnswer_layout (s : State) (p : Purse) : s.purseAnswer p = .ok (s.purseLayout p) := by
  have hcode : ([p.state.code, BitVec.ofNat 8 p.cls.val] : List Byte) =
      leBytes 1 (if p.state = .blocked then 1 else 0) ++ leBytes 1 p.cls.val := by
    cases p.state <;> rfl
  have hmarks : ([flagByte p.daySpendStamp.isSome p.occurrence.isSome false false false false false false] : List Byte) =
      leBytes 1 ((if p.daySpendStamp = none then 0 else 1) + if p.occurrence = none then 0 else 2) := by
    rw [flagByte_two]
    cases p.daySpendStamp <;> cases p.occurrence <;> rfl
  rw [State.purseAnswer, Purse.bytes, hcode, hmarks, State.purseLayout]
  simp only [List.append_assoc]
  rfl

/-- The next card in card number order is the least above the one given (R22). -/
theorem purseAfter?_eq {s : State} (hs : s.PursesSound) {card : Nat} {p : Purse} (hp : p ∈ s.purses.purses) (hc : card < p.card)
    (hleast : ∀ q ∈ s.purses.purses, card < q.card → p.card ≤ q.card) : s.purseAfter? card = some p := by
  cases h : s.purseAfter? card with
  | none => exact absurd (decide_eq_true hc) (List.find?_eq_none.1 h p hp)
  | some q =>
    obtain ⟨before, after, hl, hbefore⟩ := (List.find?_eq_some_iff_append.1 h).2
    have hq : card < q.card := by simpa using List.find?_some h
    have hqm : q ∈ s.purses.purses := List.mem_of_find?_eq_some h
    refine congrArg some (card_unique hs hqm hp (le_antisymm ?_ (hleast q hqm hq)))
    rw [hl] at hp
    rcases List.mem_append.1 hp with hp | hp
    · have := hbefore p hp
      simp at this
      omega
    · rcases List.mem_cons.1 hp with rfl | hp
      · exact le_refl _
      · have hord := hs.1
        rw [hl] at hord
        exact ((List.pairwise_cons.1 (List.pairwise_append.1 hord).2.1).1 p hp).le

theorem purseAfter?_none {s : State} {card : Nat} (h : ∀ q ∈ s.purses.purses, q.card ≤ card) : s.purseAfter? card = none :=
  List.find?_eq_none.2 fun q hq => by simpa using h q hq

/-- Settles O8 (R21, R22): a card has one record, and the first one above a card in the table is the least. -/
theorem purseReadNextResult : Obligations.PurseReadNextResult := by
  intro s card hopen hs h2
  refine ⟨fun p hp hc => ?_, fun h1 hn => ?_, fun p hp hc hleast => ?_, fun hall => ?_⟩
  · have h1 : 1 ≤ card := hc ▸ (hs.2.2.1 p hp).1
    change Host.Outcome.next (s.takeCommand (purseReadWork _)) = _
    rw [purseReadWork, cardBody_spelled h1 h2, withBody_some, takeCommand_withPurse_some hopen (hc ▸ purse?_of_mem hs hp)]
    exact congrArg _ (takeCommand_effect hopen (congrArg _ (purseAnswer_layout s.officeSeek p)))
  · change Host.Outcome.next (s.takeCommand (purseReadWork _)) = _
    rw [purseReadWork, cardBody_spelled h1 h2, withBody_some, takeCommand_withPurse_none hopen (purse?_none_iff.2 hn)]
  · change Host.Outcome.next (s.takeCommand (purseNextWork _)) = _
    rw [purseNextWork, purseNextBody_spelled h2, withBody_some]
    refine congrArg _ (takeCommand_effect hopen ?_)
    rw [purseAfter?_eq (s := s.officeSeek) hs hp hc hleast]
    exact congrArg _ (purseAnswer_layout s.officeSeek p)
  · change Host.Outcome.next (s.takeCommand (purseNextWork _)) = _
    rw [purseNextWork, purseNextBody_spelled h2, withBody_some]
    refine congrArg _ (takeCommand_refuse hopen ?_)
    rw [purseAfter?_none (s := s.officeSeek) hall]

/-! ## CLASS_SET -/

theorem classRecord_inRange_iff (c : ClassRecord) : c.inRange = true ↔
    c.rate ≤ 1000 ∧ c.cap ≤ 50000 ∧ -20000 ≤ c.floor ∧ c.floor ≤ 0 ∧ c.dayLimit ≤ 200000 ∧ c.holdCeiling ≤ 99999 := by
  simp [ClassRecord.inRange, and_assoc]

/-- Settles O9 (R8, R9). -/
theorem classSetResult : Obligations.ClassSetResult := by
  intro s cls rate cap dayLimit ceiling floor hopen hr hc hl hu hd hh
  change Host.Outcome.next (s.takeCommand (classSetWork _)) = _
  rw [classSetWork, classSetBody_spelled hr hc hl (Int.lt_add_one_of_le hu) hd hh, withBody_some]
  refine congrArg _ ?_
  have hgood := classRecord_inRange_iff
    { rate := rate, cap := cap, floor := floor, dayLimit := dayLimit, holdCeiling := ceiling }
  by_cases h : rate ≤ 1000 ∧ cap ≤ 50000 ∧ -20000 ≤ floor ∧ floor ≤ 0 ∧ dayLimit ≤ 200000 ∧ ceiling ≤ 99999
  · rw [if_pos h]
    exact takeCommand_effect hopen (if_pos (hgood.2 h))
  · rw [if_neg h]
    exact takeCommand_refuse hopen (if_neg (mt hgood.1 h))

end Sys2Proof.Machine
end

/-! # The commands of the credit unit, the time unit, the hold unit and engine control (O17 to O23, O28) -/

section
namespace Sys2Proof.Machine

/-- A command whose work accepts on a condition: taken with its work when `p` holds, which the condition decides, and refused
otherwise. -/
theorem takeCommand_unless {s t : State} (h : s.OfficeOpen) {c : State → Prop} [DecidablePred c] {p : Prop} [Decidable p]
    {status : OfficeStatus} {work : State → State × OfficeAnswer} (hc : c s.officeSeek ↔ p)
    (haccept : p → s.takeCommand work = t) :
    s.takeCommand (fun u => if c u then work u else (u, .refuse status)) = if p then t else s.replied status [] := by
  split
  next hp => rw [← haccept hp, takeCommand_open h, takeCommand_open h, if_pos (hc.2 hp)]
  next hp => exact takeCommand_refuse h (if_neg (mt hc.1 hp))

/-! ## The batch -/

/-- Settles O17 (R113, R114): the checks in order, and the batch an accepted command leaves. -/
theorem batchOpenAndItemResult : Obligations.BatchOpenAndItemResult := by
  refine fun s hopen => ⟨fun batchId count total h1 h2 hc ht => ?_, fun card amount h1 h2 ha => ?_⟩
  · have hcount : count = 0 ∨ Config.maxBatch < count ↔ count < 1 ∨ 512 < count := or_congr_left Nat.lt_one_iff.symm
    have htotal : total < count ∨ count * 200000 < total ↔ total < count ∨ 200000 * count < total := by rw [Nat.mul_comm]
    change Host.Outcome.next (s.takeCommand (batchOpenWork _)) = _
    rw [batchOpenWork, batchOpenBody_spelled (by omega) (by omega) hc ht, withBody_some]
    exact congrArg _ (takeCommand_check hopen hcount fun _ => takeCommand_check hopen htotal fun _ =>
      takeCommand_check hopen Iff.rfl fun _ => takeCommand_effect hopen rfl)
  · have hrange : amount = 0 ∨ Config.maxCredit < amount ↔ amount < 1 ∨ 200000 < amount :=
      or_congr_left Nat.lt_one_iff.symm
    change Host.Outcome.next (s.takeCommand (batchItemWork _)) = _
    rw [batchItemWork, creditBody_spelled h1 h2 ha, withBody_some]
    exact congrArg _ (takeCommand_check hopen hrange fun _ => takeCommand_check hopen Iff.rfl fun _ =>
      takeCommand_check hopen Iff.rfl fun _ => takeCommand_effect hopen rfl)

/-- The summary of a close (R117), from the verdicts on its items. -/
def State.closeSummary (s : State) : BatchSummary :=
  let verdicts := (s.closeVerdicts s.credit.staging).1
  let applied := verdicts.count none
  { appliedCount := applied
    appliedTotal := appliedAmounts s.credit.staging verdicts
    rejectedCount := verdicts.length - applied
    firstSeq := if applied = 0 then 0 else s.journal.nextSeq
    lastSeq := if applied = 0 then 0
      else ((s.closeVerdicts s.credit.staging).2.journal.records.getLast?.map Record.seq).getD 0 }

/-- A close applies and rejects the items as the verdicts say, and its tally is theirs (R116, R117). -/
theorem closeBatch_eq (s : State) : s.closeBatch = ({ (s.closeVerdicts s.credit.staging).2 with credit := { s.credit with
    state := .closed, results := rejectedItems s.credit.staging (s.closeVerdicts s.credit.staging).1,
    summary := s.closeSummary } }, .ok s.closeSummary.bytes) := by
  obtain ⟨hstate, h1, h2, h3, h4, h5, h6⟩ := closeItems_eq s s.credit.staging [] [] s CloseTally.zero 1 rfl rfl
    (fun _ => rfl) ⟨rfl, rfl, rfl, rfl, rfl, rfl⟩
  simp only [List.nil_append] at h1 h2 h3 h4 h5 h6
  have hsum : (closeItems s.credit.staging 1 s CloseTally.zero).2.summary = s.closeSummary := by
    clear hstate h6
    generalize (closeItems s.credit.staging 1 s CloseTally.zero).2.summary = m at h1 h2 h3 h4 h5 ⊢
    obtain ⟨count, total, rejected, first, last⟩ := m
    exact BatchSummary.mk.injEq .. ▸ ⟨h1, h2, h3, h4, h5⟩
  rw [State.closeBatch]
  simp only [hstate, hsum, h6]
  rfl

theorem closeSummary_seek (s : State) : s.officeSeek.closeSummary = s.closeSummary := by
  simp only [State.closeSummary, State.officeSeek_credit, closeVerdicts_seek]
  rfl

/-- Settles O18 (R115 to R117): the checks in order, and the close of `closeBatch_eq`. -/
theorem batchCloseResult : Obligations.BatchCloseResult := by
  intro s hopen
  change Host.Outcome.next (s.takeCommand (batchCloseWork _)) = _
  rw [batchCloseWork, emptyBody_spelled, withBody_some]
  refine congrArg _ (takeCommand_check hopen Iff.rfl fun _ => takeCommand_check hopen Iff.rfl fun _ =>
    takeCommand_check hopen Iff.rfl fun _ => takeCommand_effect hopen ?_)
  rw [closeBatch_eq, closeSummary_seek, State.officeSeek_credit, closeVerdicts_seek]
  rfl

/-- The batch page field by field (R119, R181). -/
theorem batchPage_eq (c : CreditUnit) : c.page = leBytes 1 (match c.state with | .none => 0 | .opened => 1 | .closed => 2)
    ++ leBytes 2 c.batchId ++ leBytes 2 c.declaredCount ++ leBytes 4 c.declaredTotal
    ++ leBytes 2 c.staging.length ++ leBytes 4 c.stagedSum
    ++ leBytes 2 c.summary.appliedCount ++ leBytes 4 c.summary.appliedTotal
    ++ leBytes 2 c.summary.rejectedCount ++ leBytes 4 c.summary.firstSeq ++ leBytes 4 c.summary.lastSeq := by
  have hcode : ([c.state.code] : List Byte) = leBytes 1 (match c.state with | .none => 0 | .opened => 1 | .closed => 2) := by
    cases c.state <;> rfl
  rw [CreditUnit.page, hcode, BatchSummary.bytes]
  simp only [List.append_assoc]

theorem rejectedItem_bytes (r : RejectedItem) : r.bytes = leBytes 2 r.index ++ leBytes 4 r.card
    ++ leBytes 1 (match r.reason with | .unknownCard => 3 | .purseFull => 7 | .noRoom => 8) := by
  have hcode : ([r.reason.code] : List Byte) = leBytes 1 (match r.reason with | .unknownCard => 3 | .purseFull => 7 | .noRoom => 8) := by
    cases r.reason <;> rfl
  rw [RejectedItem.bytes, hcode]

/-- Settles O19 (R118, R119). -/
theorem batchAbortAndResult : Obligations.BatchAbortAndResult := by
  refine fun s index hopen hi => ⟨?_, ?_⟩
  · change Host.Outcome.next (s.takeCommand (batchAbortWork _)) = _
    rw [batchAbortWork, emptyBody_spelled, withBody_some]
    refine congrArg _ (Eq.trans ?_ (ite_not (p := s.credit.state = .opened) _ _))
    exact takeCommand_check hopen Iff.rfl fun _ => takeCommand_effect hopen rfl
  · change Host.Outcome.next (s.takeCommand (batchResultWork _)) = _
    rw [batchResultWork, batchResultBody_spelled hi, withBody_some]
    refine congrArg _ ?_
    by_cases h0 : index = 0
    · rw [if_pos h0]
      refine takeCommand_effect hopen ((if_pos h0).trans ?_)
      rw [batchPage_eq]
      rfl
    · have hat : s.officeSeek.credit.resultAt index = (if s.credit.state = .closed then s.credit.results else [])[index - 1]? := by
        change (if s.credit.state = .closed then s.credit.results[index - 1]? else none) = _
        split <;> rfl
      rw [if_neg h0]
      generalize (if s.credit.state = .closed then s.credit.results else [])[index - 1]? = entry at hat ⊢
      cases entry with
      | none => exact takeCommand_refuse hopen ((if_neg h0).trans (by rw [hat]))
      | some r =>
        refine takeCommand_effect hopen ((if_neg h0).trans ?_)
        rw [hat]
        exact congrArg (fun l => (s.officeSeek, OfficeAnswer.ok l)) (rejectedItem_bytes r)

/-! ## The time unit -/

/-- Settles O20 (R28, R34). -/
theorem clockRolloverSetResult : Obligations.ClockRolloverSetResult := by
  refine fun s day minute second flag hopen hd hm hs => ⟨?_, ?_⟩
  · change Host.Outcome.next (s.takeCommand (clockSetWork _)) = _
    rw [clockSetWork, clockSetBody_spelled (by omega) (by omega) (by omega), withBody_some]
    exact congrArg _ (takeCommand_check hopen Iff.rfl fun _ => takeCommand_effect hopen rfl)
  · change Host.Outcome.next (s.takeCommand (rolloverSetWork _)) = _
    rw [rolloverSetWork, ← boolByte_eq, rolloverSetBody_spelled (by omega), withBody_some]
    exact congrArg _ (takeCommand_check hopen Iff.rfl fun _ => takeCommand_effect hopen rfl)

/-- Settles O21 (R36, R37): the check of the table is `windowTableGood_iff`. -/
theorem windowSetResult : Obligations.WindowSetResult := by
  intro s ws hopen hws
  have hexec : exec (.windowSet (windowsBody ws.toList)) s = .next (s.takeCommand (windowSetWork (windowsBody ws.toList))) := rfl
  have hgood := windowTableGood_iff ws
  rw [hexec, windowSetWork, windowSetBody_spelled ws hws, withBody_some]
  refine ⟨fun hrun => ?_, fun hrun => ⟨fun hg => ⟨Vector.ofFn fun k : Fin 6 => if ws[k].used then ws[k] else Window.unused,
    fun k => ?_, ?_⟩, fun hg => ?_⟩⟩
  · exact congrArg _ (takeCommand_refuse hopen (if_pos hrun))
  · exact Vector.getElem_ofFn k.isLt
  · refine congrArg _ (takeCommand_effect hopen ((if_neg hrun).trans (if_neg ?_)))
    rw [hgood.2 hg]
    exact Bool.noConfusion
  · refine congrArg _ (takeCommand_refuse hopen ((if_neg hrun).trans (if_pos ?_)))
    rwa [← Bool.not_eq_true, hgood]

/-! ## The hold unit -/

/-- A station's entry written with every hold of the station released, in one (R61): under the agreement of holds and purses the
holds of a station are those its purses name. -/
theorem releaseStation_eq {s : State} (hp : s.PursesSound) (hs : s.HoldsSound) {station : Nat} (h1 : 1 ≤ station)
    (e : StationEntry) : (s.setStation station e).releaseStation station = { s with
      purses := { s.purses with purses := s.purses.purses.map (fun q : Purse =>
        if q.holdStation = some station then { q with holdStation := none } else q) }
      holds := { stations := s.holds.stations.setIfInBounds (station - 1) e
                 holds := s.holds.holds.filter (fun h : Hold => decide (h.station ≠ station))
                 lastExpired := s.holds.lastExpired.setIfInBounds (station - 1) none } } := by
  have hpurses : s.purses.purses.map (fun q : Purse =>
      if ((s.setStation station e).queue station).any (fun h => h.card == q.card) then { q with holdStation := none } else q) =
      s.purses.purses.map fun q : Purse => if q.holdStation = some station then { q with holdStation := none } else q := by
    refine List.map_congr_left fun q hq => if_congr ?_ rfl rfl
    rw [List.any_eq_true]
    constructor
    · rintro ⟨h, hm, hc⟩
      obtain ⟨hm, hst⟩ := List.mem_filter.1 hm
      obtain ⟨-, -, -, -, -, r, hr, hrc, hrs⟩ := hs.2.2.2.1 h hm
      rw [card_unique hp hq hr ((beq_iff_eq.1 hc).symm.trans hrc.symm), hrs, beq_iff_eq.1 hst]
    · intro hst
      rcases hs.2.2.2.2.1 q hq with hn | ⟨-, h, hm, hc, hs⟩
      · rw [hn] at hst
        cases hst
      · rw [hst, Option.some_inj] at hs
        exact ⟨h, List.mem_filter.2 ⟨hm, beq_iff_eq.2 hs.symm⟩, beq_iff_eq.2 hc⟩
  have hholds : s.holds.holds.filter (fun h => !((s.setStation station e).queue station).any fun g =>
      h.card == g.card && h.station == g.station) = s.holds.holds.filter fun h : Hold => decide (h.station ≠ station) := by
    refine List.filter_congr fun h hm => ?_
    rw [Bool.eq_iff_iff, Bool.not_eq_true', ← Bool.not_eq_true, List.any_eq_true, decide_eq_true_eq]
    refine not_congr ⟨?_, fun hst => ⟨h, List.mem_filter.2 ⟨hm, beq_iff_eq.2 hst⟩, by simp⟩⟩
    rintro ⟨g, hg, hgh⟩
    rw [Bool.and_eq_true, beq_iff_eq, beq_iff_eq] at hgh
    exact hgh.2.trans (beq_iff_eq.1 (List.mem_filter.1 hg).2)
  rw [State.releaseStation, removeHolds_eq, ← hpurses, ← hholds, State.setStation, State.setLastExpired, stationSlot_eq (by omega)]
  rfl

/-- Settles O23 (R61, R62). -/
theorem stationSetResult : Obligations.StationSetResult := by
  intro s station quota lifetime kind hopen hp hs h1 h2 hq hl
  have hrange : ({ kind := kind, quota := quota, lifetime := lifetime } : StationEntry).inRange = false ↔
      8 < quota ∨ lifetime < 30 ∨ 900 < lifetime := by
    rw [← Bool.not_eq_true]
    simp only [StationEntry.inRange, Bool.and_eq_true, decide_eq_true_eq]
    omega
  refine Eq.trans (b := Host.Outcome.next (s.takeCommand (stationSetWork
    (leBytes 1 station ++ [kind.code] ++ leBytes 1 quota ++ leBytes 2 lifetime)))) (by cases kind <;> rfl) ?_
  rw [stationSetWork, stationSetBody_spelled h1 h2 hq hl, withBody_some]
  refine congrArg _ (takeCommand_check hopen hrange fun _ => ?_)
  dsimp only
  split
  next =>
    refine takeCommand_effect hopen ?_
    rw [State.setStation, stationSlot_eq (by omega)]
    rfl
  next =>
    refine takeCommand_effect hopen ?_
    rw [releaseStation_eq (s := s.officeSeek) hp hs h1]
    rfl

/-! ## Engine control -/

theorem freezeReasonCode_eq (r : Option FreezeReason) :
    ([freezeReasonCode r] : List Byte) = leBytes 1 (match r with | none => 0 | some .office => 1 | some .rollover => 2) := by
  rcases r with _ | _ | _ <;> rfl

/-- Settles O28 (R146, R147, R148, R152). -/
theorem engineCommandsResult : Obligations.EngineCommandsResult := by
  refine fun s limit hopen hl => ⟨?_, ?_, ?_, ?_⟩
  · change Host.Outcome.next (s.takeCommand (goWork _)) = _
    rw [goWork, emptyBody_spelled, withBody_some]
    exact congrArg _ (takeCommand_unless hopen Iff.rfl fun _ => takeCommand_effect hopen rfl)
  · change Host.Outcome.next (s.takeCommand (thawWork _)) = _
    rw [thawWork, emptyBody_spelled, withBody_some]
    exact congrArg _ (takeCommand_unless hopen Iff.rfl fun _ => takeCommand_effect hopen
      (congrArg (fun l => (_, OfficeAnswer.ok l)) (freezeReasonCode_eq s.engine.reason)))
  · change Host.Outcome.next (s.takeCommand (freezeWork _)) = _
    rw [freezeWork, freezeBody_spelled hl, withBody_some]
    exact congrArg _ (takeCommand_check hopen Iff.rfl fun _ => takeCommand_check hopen Iff.rfl fun _ =>
      takeCommand_effect hopen (congrArg (fun l => (_, OfficeAnswer.ok (l ++ leBytes 2 (s.engine.freeze limit).timer)))
        (freezeReasonCode_eq (s.engine.freeze limit).reason)))
  · change Host.Outcome.next (s.takeCommand (restartWork _)) = _
    rw [restartWork, emptyBody_spelled, withBody_some]
    exact congrArg _ (takeCommand_effect hopen rfl)

end Sys2Proof.Machine
end

/-! # The day minute and the window found (O22) -/

section
namespace Sys2Proof.Machine

theorem covers_iff (w : Window) (m : Nat) : w.covers m = true ↔ w.used = true ∧ w.start ≤ m ∧ m < w.stop := by
  simp [Window.covers, and_assoc]

/-- The entries of a good table share no day minute (R37). -/
theorem covers_unique {ws : Vector Window 6} (hd : disjointWindows ws.toList = true) {m : Nat} {j k : Fin 6}
    (hj : ws[j].covers m = true) (hk : ws[k].covers m = true) : j = k := by
  have hpair : ∀ j k : Fin 6, j < k → ws[j].overlaps ws[k] = false := fun j k hlt => by
    have := List.pairwise_iff_getElem.1 ((disjointWindows_iff _).1 hd) j k (by simp) (by simp) hlt
    simpa using this
  obtain ⟨hju, hj1, hj2⟩ := (covers_iff _ _).1 hj
  obtain ⟨hku, hk1, hk2⟩ := (covers_iff _ _).1 hk
  have hmeet : ws[j].overlaps ws[k] = true ∧ ws[k].overlaps ws[j] = true := by
    rw [overlaps_iff, overlaps_iff]
    exact ⟨⟨hju, hku, by omega, by omega⟩, hku, hju, by omega, by omega⟩
  rcases lt_trichotomy j k with h | h | h
  · exact absurd ((hpair j k h).symm.trans hmeet.1) (by decide)
  · exact h
  · exact absurd ((hpair k j h).symm.trans hmeet.2) (by decide)

/-- The window found is an entry that covers the day minute. -/
theorem windowFound_covers {t : TimeUnit} {o : Nat × Bool} (h : t.windowFound = some o) :
    ∃ k : Fin 6, k.val = o.1 ∧ t.windows[k].covers t.dayMinute = true ∧ t.windows[k].subsidised = o.2 := by
  obtain ⟨e, he, rfl⟩ := Option.map_eq_some_iff.1 h
  have hm := List.mem_zipIdx' (List.mem_of_find?_eq_some he)
  have hc := List.find?_some he
  have hlt : e.2 < 6 := by simpa using hm.1
  have hw : t.windows[(⟨e.2, hlt⟩ : Fin 6)] = e.1 := by simpa using hm.2.symm
  exact ⟨⟨e.2, hlt⟩, rfl, by rw [hw]; exact hc, by rw [hw]⟩

theorem windowFound_none {t : TimeUnit} : t.windowFound = none ↔ ∀ k : Fin 6, t.windows[k].covers t.dayMinute ≠ true := by
  rw [TimeUnit.windowFound, Option.map_eq_none_iff, List.find?_eq_none]
  constructor
  · intro h k
    refine h (t.windows[k], k.val) ?_
    rw [List.mem_zipIdx_iff_getElem?]
    simp
  · rintro h ⟨w, i⟩ hm
    obtain ⟨hlt, hw⟩ := List.mem_zipIdx' hm
    have hk := h ⟨i, by simpa using hlt⟩
    rw [hw]
    simpa using hk

/-- Settles O22 (R35, R38): in a good table at most one entry covers the day minute. -/
theorem dayMinuteAndWindow : Obligations.DayMinuteAndWindow := by
  intro s hs
  obtain ⟨-, hminute, -, hroll, -, hgood, -⟩ := hs
  have hday : s.time.dayMinute = (s.time.minute + 1440 - s.time.rolloverMinute) % 1440 := rfl
  have hdisjoint : disjointWindows s.time.windows.toList = true := (Bool.and_eq_true_iff.1 hgood).2
  refine ⟨by omega, by omega, fun k b => ?_, ?_⟩
  · rw [← and_assoc, ← and_assoc, and_assoc (a := s.time.windows[k].used = true), ← covers_iff]
    constructor
    · intro h
      obtain ⟨j, hj, hc, hb⟩ := windowFound_covers h
      obtain rfl : j = k := Fin.ext hj
      exact ⟨hc, hb⟩
    · rintro ⟨hc, rfl⟩
      cases h : s.time.windowFound with
      | none => exact absurd hc (windowFound_none.1 h k)
      | some o =>
        obtain ⟨j, hj, hcj, hb⟩ := windowFound_covers h
        obtain rfl := covers_unique hdisjoint hcj hc
        rw [hj, hb]
  · rw [windowFound_none]
    exact forall_congr' fun k => not_congr (covers_iff _ _)

end Sys2Proof.Machine
end

/-! # The record layout and the office commands of the journal (O24 to O27) -/

section
namespace Sys2Proof.Machine

/-! ## The layout of a record -/

/-- The ten bytes before a record's body (R182). -/
def Record.head (r : Record) : List Byte :=
  leBytes 4 r.seq ++ [r.body.kindCode, BitVec.ofNat 8 r.source] ++ leBytes 2 r.minute ++ leBytes 2 r.day

theorem record_head_length (r : Record) : r.head.length = 10 := by simp [Record.head, leBytes_length]

theorem recordBody_length (b : RecordBody) : b.bytes.length = 21 := by
  cases b <;> simp [RecordBody.bytes, moneyBytes, leBytes_length, leBytesInt_length]

theorem record_bytes (r : Record) : r.bytes = r.head ++ (r.body.bytes ++ [checkByte (r.head ++ r.body.bytes)]) := by
  rw [← List.append_assoc]
  rfl

theorem windowByte_eq (w : Option Nat) : ([windowByte w] : List Byte) = leBytes 1 (w.getD 255) := rfl

/-- Settles O24 (R182). -/
theorem recordLayout : Obligations.RecordLayout := by
  refine fun r => ⟨?_, withCheck_sum _, ?_, ?_⟩
  · simp [record_bytes, record_head_length, recordBody_length]
  · rw [record_bytes, List.take_left' (record_head_length r), Record.head]
    cases r.body <;> simp only [List.append_assoc] <;> rfl
  · rw [record_bytes, List.drop_left' (record_head_length r), List.take_left' (recordBody_length r.body)]
    cases hb : r.body with
    | debit card gross subsidy amount after window =>
      simp only [RecordBody.bytes, moneyBytes, windowByte_eq]
    | enrol | credit | cash | adjust | retire | batchCredit | dayMark => rfl

/-! ## The cursor -/

/-- In a sound journal the record with a sequence number is the first one found. -/
theorem findIdx_held {s : State} (hs : s.JournalSound) {older newer : List Record} {r : Record}
    (hr : s.journal.records = older ++ r :: newer) : s.journal.records.findIdx (fun q => q.seq == r.seq) = older.length := by
  have hnd := series_nodup hs
  rw [Journal.series, hr, List.map_append, List.map_cons, List.append_assoc] at hnd
  rw [hr]
  refine findIdx_split older newer r r.seq rfl fun a ha hseq => ?_
  exact (List.nodup_append.1 hnd).2.2 a.seq (List.mem_map_of_mem ha) r.seq (List.mem_cons_self ..) hseq

/-- What of the journal has been read when the cursor stands at a record held (R131). -/
theorem readCount_held {s : State} (hs : s.JournalSound) {older newer : List Record} {r : Record}
    (hr : s.journal.records = older ++ r :: newer) (hc : r.seq = s.journal.cursor) : s.journal.readCount = older.length := by
  rw [Journal.readCount, ← hc]
  exact findIdx_held hs hr

theorem atCursor?_none {s : State} (hs : s.JournalSound) (hc : s.journal.cursor = s.journal.nextSeq) :
    s.journal.atCursor? = none := by
  refine List.find?_eq_none.2 fun r hr hseq => ?_
  have hnd := series_nodup hs
  exact (List.nodup_append.1 hnd).2.2 r.seq (List.mem_map_of_mem hr) _ (List.mem_singleton.2 rfl) ((beq_iff_eq.1 hseq).trans hc)

theorem atCursor?_some {s : State} (hs : s.JournalSound) {r : Record} (hr : r ∈ s.journal.records)
    (hc : r.seq = s.journal.cursor) : s.journal.atCursor? = some r := by
  obtain ⟨older, newer, hsplit⟩ := List.append_of_mem hr
  have hnd := series_nodup hs
  rw [Journal.series, hsplit, List.map_append, List.map_cons, List.append_assoc] at hnd
  rw [Journal.atCursor?, hsplit, List.find?_append, List.find?_eq_none.2, Option.none_or, List.find?_cons_of_pos]
  · simpa using hc
  · intro a ha hseq
    exact (List.nodup_append.1 hnd).2.2 a.seq (List.mem_map_of_mem ha) r.seq (List.mem_cons_self ..)
      ((beq_iff_eq.1 hseq).trans hc.symm)

/-- Settles O25 (R132, R134). -/
theorem jnlNextRewindResult : Obligations.JnlNextRewindResult := by
  refine fun s hopen hs => ⟨fun r hr hc => ?_, fun hc => ?_, ?_⟩
  · change Host.Outcome.next (s.takeCommand (jnlNextWork _)) = _
    rw [jnlNextWork, emptyBody_spelled, withBody_some]
    refine congrArg _ (takeCommand_effect hopen ?_)
    rw [State.officeSeek_journal, atCursor?_some hs hr hc]
    rfl
  · change Host.Outcome.next (s.takeCommand (jnlNextWork _)) = _
    rw [jnlNextWork, emptyBody_spelled, withBody_some]
    refine congrArg _ (takeCommand_refuse hopen ?_)
    rw [State.officeSeek_journal, atCursor?_none hs hc]
  · change Host.Outcome.next (s.takeCommand (jnlRewindWork _)) = _
    rw [jnlRewindWork, emptyBody_spelled, withBody_some]
    refine congrArg _ ?_
    cases hr : s.journal.records with
    | nil =>
      refine takeCommand_effect hopen ?_
      simp only [State.officeSeek_journal, Journal.start, Journal.oldest, Journal.occupancy, hr]
      rfl
    | cons r rest =>
      refine takeCommand_effect hopen ?_
      simp only [State.officeSeek_journal, Journal.start, Journal.oldest, Journal.occupancy, hr]
      rfl

/-! ## JNL_CONFIRM -/

/-- All of the journal has been read when the cursor stands at the next sequence number (R131). -/
theorem readCount_all {s : State} (hs : s.JournalSound) (hc : s.journal.cursor = s.journal.nextSeq) :
    s.journal.readCount = s.journal.records.length := by
  refine List.findIdx_eq_length.2 fun r hr => ?_
  exact Bool.not_eq_true _ ▸ List.find?_eq_none.1 (atCursor?_none hs hc) r hr

theorem confirmCount_held {s : State} (hs : s.JournalSound) {older newer : List Record} {r : Record}
    (hr : s.journal.records = older ++ r :: newer) :
    s.journal.confirmCount r.seq = if older.length < s.journal.readCount then some (older.length + 1) else none := by
  have hlen : older.length < s.journal.records.length := by rw [hr]; simp
  unfold Journal.confirmCount Journal.occupancy
  rw [findIdx_held hs hr]
  simp only [hlen, and_true]

theorem confirmCount_not_held {j : Journal} {seq : Nat} (h : ∀ r ∈ j.records, r.seq ≠ seq) : j.confirmCount seq = none := by
  have hall : j.records.findIdx (fun r => r.seq == seq) = j.records.length :=
    List.findIdx_eq_length.2 fun r hr => beq_false_of_ne (h r hr)
  unfold Journal.confirmCount Journal.occupancy
  rw [hall]
  exact if_neg fun h => lt_irrefl _ h.2

/-- The cursor behind a record: the record has been read. -/
theorem lt_readCount {s : State} (hs : s.JournalSound) {older newer : List Record} {r : Record}
    (hr : s.journal.records = older ++ r :: newer) (hc : s.journal.cursor ∈ newer.map Record.seq ++ [s.journal.nextSeq]) :
    older.length < s.journal.readCount := by
  rcases List.mem_append.1 hc with hc | hc
  · obtain ⟨q, hq, hqc⟩ := List.mem_map.1 hc
    obtain ⟨n, m, rfl⟩ := List.append_of_mem hq
    rw [readCount_held hs (older := older ++ r :: n) (by rw [hr, List.append_assoc]; rfl) hqc]
    simp
  · rw [readCount_all hs (List.mem_singleton.1 hc), hr]
    simp

/-- The cursor at a record or before it: the record has not been read. -/
theorem readCount_le {s : State} (hs : s.JournalSound) {older newer : List Record} {r : Record}
    (hr : s.journal.records = older ++ r :: newer) (hc : s.journal.cursor ∈ older.map Record.seq ++ [r.seq]) :
    s.journal.readCount ≤ older.length := by
  rcases List.mem_append.1 hc with hc | hc
  · obtain ⟨q, hq, hqc⟩ := List.mem_map.1 hc
    obtain ⟨n, m, rfl⟩ := List.append_of_mem hq
    rw [readCount_held hs (older := n) (newer := m ++ r :: newer) (by rw [hr, List.append_assoc]; rfl) hqc]
    simp
  · rw [readCount_held hs hr (List.mem_singleton.1 hc).symm]

theorem afterEnd_congr {a : AttentionUnit} {c : Cause} {p q : Prop} [Decidable p] [Decidable q] (h : p ↔ q) :
    a.afterEnd c p = a.afterEnd c q := if_congr h rfl rfl

theorem afterEnd_false {a : AttentionUnit} {c : Cause} {p : Prop} [Decidable p] (h : ¬ p) : a.afterEnd c p = a := if_neg h

/-- Settles O26 (R127, R133, R139): where the cursor stands decides whether the record has been read. -/
theorem jnlConfirmResult : Obligations.JnlConfirmResult := by
  refine fun s seq hopen hs h1 h2 => ⟨fun older newer r hr hseq hc => ?_, fun hn => ?_, fun older newer r hr hseq hc => ?_⟩
  all_goals
    change Host.Outcome.next (s.takeCommand (jnlConfirmWork _)) = _
    rw [jnlConfirmWork, jnlConfirmBody_spelled (by omega) (by omega), withBody_some]
  · subst hseq
    have hdrop : s.journal.records.drop (older.length + 1) = newer := by
      rw [hr]
      simp [List.drop_append]
    have hreload : 5 ≤ s.journal.reload := hs.2.2.2.2.2.2.1
    have hdue : s.journal.timer = 0 ∧ (s.journal.confirm (older.length + 1)).timer ≠ 0 ↔
        s.journal.timer = 0 ∧ newer.length < s.journal.highWater := by
      simp only [Journal.confirm, hdrop]
      split_ifs <;> omega
    refine congrArg _ (takeCommand_effect hopen ?_)
    rw [State.officeSeek_journal, confirmCount_held hs hr, if_pos (lt_readCount hs hr hc)]
    dsimp only
    rw [lowerJournal_eq, State.officeSeek_journal, afterEnd_congr hdue]
    simp only [Journal.confirm, hdrop, Journal.occupancy, Journal.oldest]
    rfl
  · refine congrArg _ (takeCommand_refuse hopen ?_)
    rw [State.officeSeek_journal, confirmCount_not_held hn]
  · subst hseq
    refine congrArg _ (takeCommand_refuse hopen ?_)
    rw [State.officeSeek_journal, confirmCount_held hs hr, if_neg (not_lt.2 (readCount_le hs hr hc))]

/-! ## JOURNAL_SET -/

/-- The conditions after a JOURNAL_SET, by where the occupancy stands against the old mark and the new one (R127, R136). -/
theorem settings_eq {s : State} {mark reload : Nat} (hs : s.JournalSound) (hr : 5 ≤ reload) :
    (s.lowerJournal (s.journal.withSettings mark reload)).reportBegin .journalHigh
        (!s.journal.high && (s.journal.withSettings mark reload).high) =
      { s with
        journal := { s.journal with
          highWater := mark
          reload := reload
          timer := if s.journal.records.length < mark ∨ s.journal.records.length < s.journal.highWater then reload
            else min s.journal.timer reload }
        attention := if s.journal.highWater ≤ s.journal.records.length then
            (s.attention.afterEnd .overdue (s.journal.timer = 0 ∧ s.journal.records.length < mark)).afterEnd .journalHigh
              (s.journal.records.length < mark)
          else if mark ≤ s.journal.records.length then s.attention.conditionBegins .journalHigh
          else s.attention } := by
  obtain ⟨-, -, -, -, -, -, hreload, -, -, hlow⟩ := hs
  have htimer : (s.journal.withSettings mark reload).timer =
      if s.journal.records.length < mark ∨ s.journal.records.length < s.journal.highWater then reload
      else min s.journal.timer reload := by
    change s.journal.timerAfterSet mark reload = _
    unfold Journal.timerAfterSet Journal.occupancy
    split_ifs <;> omega
  have hdue : s.journal.timer = 0 ∧ (s.journal.withSettings mark reload).timer ≠ 0 ↔
      s.journal.timer = 0 ∧ s.journal.records.length < mark := by
    rw [htimer]
    split_ifs <;> omega
  have hbegin : (!s.journal.high && (s.journal.withSettings mark reload).high) = true ↔
      s.journal.records.length < s.journal.highWater ∧ mark ≤ s.journal.records.length := by
    rw [Bool.and_eq_true, Bool.not_eq_true', ← Bool.not_eq_true, high_true, high_true, not_le]
    rfl
  have hrec : (s.journal.withSettings mark reload).records = s.journal.records := rfl
  have hmark : (s.journal.withSettings mark reload).highWater = mark := rfl
  rw [reportBegin_eq, lowerJournal_eq, ← htimer]
  simp only [hbegin, hrec, hmark]
  rw [afterEnd_false (by omega : ¬ (2047 ≤ s.journal.records.length ∧ s.journal.records.length < 2047)), afterEnd_congr hdue]
  by_cases hhigh : s.journal.highWater ≤ s.journal.records.length
  · rw [if_pos hhigh, if_neg (by omega), afterEnd_congr (and_iff_right hhigh)]
    rfl
  · have hloaded := hlow (not_le.1 hhigh)
    rw [if_neg hhigh, afterEnd_false (by omega), afterEnd_false (by omega)]
    simp only [not_le.1 hhigh, true_and]
    rfl

/-- Settles O27 (R127, R136). -/
theorem journalSetResult : Obligations.JournalSetResult := by
  intro s mark reload hopen hs hm hr
  have hrange : journalSettingsGood mark reload = false ↔ mark < 256 ∨ 1920 < mark ∨ reload < 5 ∨ 120 < reload := by
    rw [← Bool.not_eq_true]
    simp only [journalSettingsGood, Bool.and_eq_true, decide_eq_true_eq]
    omega
  change Host.Outcome.next (s.takeCommand (journalSetWork _)) = _
  rw [journalSetWork, journalSetBody_spelled hm hr, withBody_some]
  refine congrArg _ (takeCommand_check hopen hrange fun hgood => takeCommand_effect hopen ?_)
  exact congrArg (·, OfficeAnswer.ok []) (settings_eq (s := s.officeSeek) hs (by omega))

end Sys2Proof.Machine
end

/-! # The attention unit, the settings and the status pages (O29 to O32) -/

section
namespace Sys2Proof.Machine

/-! ## Bytes -/

theorem flagByte_eight (a b c d e f g h : Bool) : ([flagByte a b c d e f g h] : List Byte) =
    leBytes 1 ((if a then 1 else 0) + (if b then 2 else 0) + (if c then 4 else 0) + (if d then 8 else 0) + (if e then 16 else 0)
      + (if f then 32 else 0) + (if g then 64 else 0) + (if h then 128 else 0)) := by
  have hbit : ∀ (b : Bool) (n : Nat), (if b then n else 0) = n * b.toNat := fun b n => by cases b <;> simp
  simp only [hbit, Nat.one_mul]
  rfl

theorem byte_eq (b : Byte) : ([b] : List Byte) = leBytes 1 b.toNat := by
  rw [leBytes, leBytes, BitVec.ofNat_toNat, BitVec.setWidth_eq]

/-! ## Level conditions and the lines -/

/-- Settles O29 (R138, R139, R175, R176). -/
theorem levelCausesAndLines : Obligations.LevelCausesAndLines := by
  refine ⟨fun a c d => ⟨CauseFlags.get_set .., CauseFlags.get_set .., CauseFlags.get_set .., ?_⟩, fun s => ⟨?_, ?_⟩⟩
  · by_cases hack : a.acknowledged.get c = true
    · rw [AttentionUnit.conditionEnds, if_pos hack]
      refine ⟨CauseFlags.get_set .., (CauseFlags.get_set ..).trans ?_, CauseFlags.get_set ..⟩
      split
      next hd => rw [hd, hack, Bool.not_true, Bool.and_false]
      next => rfl
    · rw [AttentionUnit.conditionEnds, if_neg hack]
      rw [Bool.not_eq_true] at hack
      refine ⟨CauseFlags.get_set .., ?_, ?_⟩ <;> split
      next hd => rw [hd, hack, Bool.not_false, Bool.and_true]
      next => rfl
      next hd => rw [hd, hack]
      next => rfl
  · rw [State.attnAsserted, Bool.and_eq_true, supplied_iff, AttentionUnit.asserted, List.any_eq_true]
    refine and_congr_right fun _ => exists_congr fun c => ?_
    rw [eligible_iff, and_iff_right (mem_causesHighestFirst c)]
  · rw [State.ovdnAsserted, Bool.and_eq_true, supplied_iff, overdue_true]

/-! ## ATTN_TAKE -/

/-- The take finds the eligible cause with the highest number (R178). -/
theorem highest?_eq {a : AttentionUnit} {c : Cause} (hc : causeEligible a c)
    (hmax : ∀ d, causeEligible a d → d.number ≤ c.number) : a.highest? = some c := by
  have hord : causesHighestFirst.Pairwise fun c d => d.number < c.number := by decide
  cases h : a.highest? with
  | none => exact absurd ((eligible_iff a c).2 hc) (List.find?_eq_none.1 h c (mem_causesHighestFirst c))
  | some d =>
    obtain ⟨hd, before, after, hl, hbefore⟩ := List.find?_eq_some_iff_append.1 h
    have hle := hmax d ((eligible_iff a d).1 hd)
    have hm := mem_causesHighestFirst c
    rw [hl] at hm hord
    rcases List.mem_append.1 hm with hm | hm
    · have := hbefore c hm
      rw [(eligible_iff a c).2 hc] at this
      cases this
    · rcases List.mem_cons.1 hm with rfl | hm
      · rfl
      · have := (List.pairwise_cons.1 (List.pairwise_append.1 hord).2.1).1 c hm
        omega

theorem highest?_none {a : AttentionUnit} (h : ∀ c, ¬ causeEligible a c) : a.highest? = none :=
  List.find?_eq_none.2 fun c _ => mt (eligible_iff a c).1 (h c)

theorem levelDetail_eq (s : State) (c : Cause) : [BitVec.ofNat 8 c.number] ++ s.levelDetail c =
    leBytes 1 c.number ++ leBytes 1 (if s.attention.condition.get c then 1 else 0) ++ leBytes 2 s.journal.records.length
      ++ leBytes 2 s.journal.highWater := by
  rw [State.levelDetail, boolByte_eq]
  rfl

theorem watchEntry_detail (w : WatchEntry) : w.detail = leBytes 4 w.card ++ leBytes 1 w.hits ++ leBytes 1 w.lastStation
    ++ leBytes 1 (match w.lastKind with | none => 0 | some k => k.code.toNat) := by
  rw [WatchEntry.detail]
  rcases w.lastKind with _ | k
  · rfl
  · cases k <;> rfl

/-- The mask of the latched watch entries (R101). -/
theorem watchDetail_eq (v : Vector WatchEntry 4) : watchDetail v.toList =
    leBytes 1 ((if v[0].latch then 1 else 0) + (if v[1].latch then 2 else 0) + (if v[2].latch then 4 else 0)
        + (if v[3].latch then 8 else 0))
      ++ (v.toList.filter WatchEntry.latch).flatMap (fun w : WatchEntry => leBytes 4 w.card ++ leBytes 1 w.hits
        ++ leBytes 1 w.lastStation ++ leBytes 1 (match w.lastKind with | none => 0 | some k => k.code.toNat)) := by
  have hlist : v.toList = [v[0], v[1], v[2], v[3]] := by
    apply List.ext_getElem
    · simp
    · intro i h1 h2
      have : i < 4 := by simpa using h1
      interval_cases i <;> simp
  have hmask : ((v.toList.zipIdx.filter fun e => e.1.latch).map fun e => 2 ^ e.2).sum =
      (if v[0].latch then 1 else 0) + (if v[1].latch then 2 else 0) + (if v[2].latch then 4 else 0)
        + (if v[3].latch then 8 else 0) := by
    rw [hlist]
    simp only [List.zipIdx_cons, List.zipIdx_nil, List.filter_cons]
    split_ifs <;> rfl
  rw [watchDetail, hmask]
  exact congrArg (leBytes 1 _ ++ ·) (congrArg List.flatten (List.map_congr_left fun w _ => watchEntry_detail w))

/-- The freeze change record with the free values of an empty one (R183). -/
theorem changeBytes_eq (e : EngineControl) : e.changeBytes = (match e.change with
      | none => leBytes 1 0 ++ leBytes 1 0 ++ leBytes 2 Config.emptyChangeDay ++ leBytes 2 Config.emptyChangeMinute
      | some r => leBytes 1 (match r.change with | .entry => 1 | .exit => 2)
          ++ leBytes 1 (match r.reason with | .rollover => 2 | .limit => 3) ++ leBytes 2 r.day ++ leBytes 2 r.minute)
    ++ leBytes 1 e.changeCount := by
  rw [EngineControl.changeBytes]
  rcases e.change with _ | ⟨_ | _, _ | _, day, minute⟩ <;> rfl

/-- A take of the highest eligible cause, by what `State.takeCause` leaves and the detail it answers (R178). -/
theorem attnTake_effect {s t : State} (hopen : s.OfficeOpen) {c : Cause} (hc : causeEligible s.attention c)
    (hmax : ∀ d, causeEligible s.attention d → d.number ≤ c.number) {body : List Byte} (hstate : s.officeSeek.takeCause c = t.officeSeek)
    (hbody : [BitVec.ofNat 8 c.number] ++ s.causeDetail c = body) : s.takeCommand (attnTakeWork []) = t.replied .ok body := by
  rw [attnTakeWork, emptyBody_spelled, withBody_some]
  refine takeCommand_effect hopen ?_
  rw [State.officeSeek_attention, highest?_eq hc hmax, ← hstate, ← hbody]
  rfl

theorem raiserTake_watchHit (s : State) : s.raiserTake .watchHit =
    { s with lane := { s.lane with watch := s.lane.watch.map (fun w : WatchEntry => { w with latch := false }) } } := by
  rw [State.raiserTake, mapEntries_eq]
  rfl

/-- Settles O30 (R176 to R178): the cause taken is `highest?_eq`, its detail one of the layouts above. -/
theorem attnTakeResult : Obligations.AttnTakeResult := by
  refine ⟨Config.emptyChangeDay, Config.emptyChangeMinute, fun s hopen => ⟨fun hnone => ?_, fun c hc hmax => ?_⟩⟩
  · change Host.Outcome.next (s.takeCommand (attnTakeWork _)) = _
    rw [attnTakeWork, emptyBody_spelled, withBody_some]
    refine congrArg _ (takeCommand_effect hopen ?_)
    rw [State.officeSeek_attention, highest?_none hnone]
    rfl
  · change Host.Outcome.next (s.takeCommand (attnTakeWork _)) = _
    refine congrArg _ ?_
    cases c with
    | overdue => exact attnTake_effect hopen hc hmax rfl (levelDetail_eq s .overdue)
    | journalFull => exact attnTake_effect hopen hc hmax rfl (levelDetail_eq s .journalFull)
    | journalHigh => exact attnTake_effect hopen hc hmax rfl (levelDetail_eq s .journalHigh)
    | watchHit =>
      refine attnTake_effect hopen hc hmax ?_ (congrArg (leBytes 1 4 ++ ·) (watchDetail_eq s.lane.watch))
      rw [State.takeCause, raiserTake_watchHit]
      rfl
    | blockedSeen => exact attnTake_effect hopen hc hmax rfl rfl
    | freezeChange => exact attnTake_effect hopen hc hmax rfl (congrArg (leBytes 1 2 ++ ·) (changeBytes_eq s.engine))
    | laneBusFault =>
      exact attnTake_effect hopen hc hmax rfl (congrArg (leBytes 1 1 ++ ·) (flagByte_five _ _ _ _ _))
    | rollover => exact attnTake_effect hopen hc hmax rfl rfl

/-! ## The settings -/

theorem attnEnableBody_spelled (mask : BitVec 6) : attnEnableBody (leBytes 1 mask.toNat) =
    some { rollover := mask.getLsbD 0, laneBusFault := mask.getLsbD 1, freezeChange := mask.getLsbD 2,
           blockedSeen := mask.getLsbD 3, watchHit := mask.getLsbD 4, journalHigh := mask.getLsbD 5, journalFull := false,
           overdue := false } := by
  have hbyte : (leBytes 1 mask.toNat).headD 0 = mask.setWidth 8 := BitVec.ofNat_toNat ..
  unfold attnEnableBody
  rw [hbyte]
  simp only [BitVec.getLsbD_setWidth]
  exact bodyOf_eq rfl (by simp)

/-- The enables as ATTN_ENABLE answers them (R179). -/
theorem attnEnable_byte (mask : BitVec 6) : ([CauseFlags.byte
    { rollover := mask.getLsbD 0, laneBusFault := mask.getLsbD 1, freezeChange := mask.getLsbD 2, blockedSeen := mask.getLsbD 3,
      watchHit := mask.getLsbD 4, journalHigh := mask.getLsbD 5, journalFull := false, overdue := false }] : List Byte) =
    leBytes 1 mask.toNat := by
  have hall : ∀ n : Fin 64, flagByte ((BitVec.ofFin n : BitVec 6).getLsbD 0) ((BitVec.ofFin n : BitVec 6).getLsbD 1)
      ((BitVec.ofFin n : BitVec 6).getLsbD 2) ((BitVec.ofFin n : BitVec 6).getLsbD 3) ((BitVec.ofFin n : BitVec 6).getLsbD 4)
      ((BitVec.ofFin n : BitVec 6).getLsbD 5) false false = BitVec.ofNat 8 n.val := by decide
  exact congrArg (fun b => [b]) (hall mask.toFin)

/-- Settles O31 (R99, R156, R164, R179). -/
theorem settingsResult : Obligations.SettingsResult := by
  refine fun s entry card code mask hopen hcard hcode => ⟨?_, ?_, ?_, ?_, ?_⟩
  · change Host.Outcome.next (s.takeCommand (watchSetWork _)) = _
    rw [watchSetWork, watchSetBody_spelled (Nat.le_of_lt_succ entry.isLt) hcard, withBody_some]
    refine congrArg _ (takeCommand_effect hopen ?_)
    have hset : ∀ (v : Vector WatchEntry 4) w, v.setIfInBounds entry.val w = v.set entry.val w := fun v w =>
      Vector.toArray_inj.1 (by simp [Array.setIfInBounds])
    dsimp only
    rw [hset]
    rfl
  · change Host.Outcome.next (s.takeCommand (laneRateSetWork _)) = _
    rw [laneRateSetWork, laneRateBody_spelled hcode, withBody_some]
    refine congrArg _ ?_
    by_cases hrate : code = 96 ∨ code = 192 ∨ code = 384 ∨ code = 576
    · have hsome : rateOfCode code = some (100 * code) := if_pos hrate
      rw [if_pos hrate, hsome]
      by_cases hnow : s.port.receiver = .idle ∨ s.port.rate = 100 * code
      · rw [if_pos hnow]
        refine takeCommand_effect hopen ?_
        exact congrArg (fun p => (s.officeSeek.setPort p, OfficeAnswer.ok [])) (if_pos (hnow.imp_right Eq.symm))
      · rw [if_neg hnow]
        refine takeCommand_effect hopen ?_
        exact congrArg (fun p => (s.officeSeek.setPort p, OfficeAnswer.ok [])) (if_neg (mt (Or.imp_right Eq.symm) hnow))
    · have hnone : rateOfCode code = none := if_neg hrate
      rw [if_neg hrate, hnone]
      exact takeCommand_refuse hopen rfl
  · change Host.Outcome.next (s.takeCommand (statusClearWork _)) = _
    rw [statusClearWork, emptyBody_spelled, withBody_some]
    exact congrArg _ (takeCommand_effect hopen rfl)
  · change Host.Outcome.next (s.takeCommand (attnDoneWork _)) = _
    rw [attnDoneWork, emptyBody_spelled, withBody_some]
    exact congrArg _ (takeCommand_effect hopen rfl)
  · change Host.Outcome.next (s.takeCommand (attnEnableWork _)) = _
    rw [attnEnableWork, attnEnableBody_spelled, withBody_some]
    exact congrArg _ (takeCommand_effect hopen (congrArg (fun l => (_, OfficeAnswer.ok l)) (attnEnable_byte mask)))

/-! ## The status pages -/

/-- A STATUS of a part the page has answers it and changes nothing (R164, R183). -/
theorem status_effect {s : State} (hopen : s.OfficeOpen) {page part : Nat} (hp : page < 256) (h : part < statusParts page)
    {body : List Byte} (hbody : s.officeSeek.statusPage page part = body) :
    exec (.status (leBytes 1 page ++ leBytes 1 part)) s = .next (s.replied .ok body) := by
  change Host.Outcome.next (s.takeCommand (statusWork _)) = _
  rw [statusWork, statusBody_spelled hp h, withBody_some]
  exact congrArg _ (takeCommand_effect hopen (congrArg (fun l => (_, OfficeAnswer.ok l)) hbody))

theorem window_bytes (w : Window) : w.bytes =
    leBytes 3 (w.start + 2048 * w.stop + (if w.used then 4194304 else 0) + if w.subsidised then 8388608 else 0) := by
  rw [Window.bytes]
  cases w.used <;> cases w.subsidised <;> rfl

theorem timePage_eq (t : TimeUnit) : t.page = leBytes 2 t.day ++ leBytes 2 t.minute
    ++ leBytes 1 t.second ++ leBytes 1 ((if t.valid then 1 else 0) + if t.rolloverFreeze then 2 else 0)
    ++ leBytes 2 t.rolloverMinute ++ leBytes 2 t.dayMinute
    ++ leBytes 1 ((t.windowFound.map Prod.fst).getD 255) ++ windowsBody t.windows.toList := by
  rw [TimeUnit.page, flagByte_two]
  exact congrArg (_ ++ ·) (congrArg List.flatten (List.map_congr_left fun w _ => window_bytes w))

theorem stationBytes_eq (s : State) (station : Nat) : s.stationBytes station =
    leBytes 1 (match (s.station station).kind with | .none => 0 | .till => 1 | .kiosk => 2)
      ++ leBytes 1 (s.station station).quota ++ leBytes 2 (s.station station).lifetime
      ++ leBytes 1 (s.queue station).length ++ leBytes 4 ((s.lastExpired station).getD 0) := by
  rw [State.stationBytes]
  cases (s.station station).kind <;> rfl

/-- The stations of a part of page 2 (R183). -/
theorem partStations_eq {part : Nat} (h : part ≤ 4) : partStations part =
    if part = 4 then [13, 14] else [3 * part + 1, 3 * part + 2, 3 * part + 3] := by
  interval_cases part <;> rfl

theorem watchPage_eq (w : WatchEntry) : w.pageBytes = leBytes 4 w.card
    ++ leBytes 1 ((if w.latch then 128 else 0) + match w.lastKind with | none => 0 | some k => k.code.toNat)
    ++ leBytes 1 w.hits ++ leBytes 1 w.lastStation := by
  rw [WatchEntry.pageBytes, latchKindByte]
  rcases w.lastKind with _ | k
  · cases w.latch <;> rfl
  · cases w.latch <;> cases k <;> rfl

theorem enginePage_eq (e : EngineControl) : e.page =
    leBytes 1 (match e.state with | .unset => 0 | .running => 1 | .frozen => 2)
      ++ leBytes 1 (match e.reason with | none => 0 | some .office => 1 | some .rollover => 2)
      ++ leBytes 1 e.limit ++ leBytes 2 e.timer
      ++ (match e.change with
        | none => leBytes 1 0 ++ leBytes 1 0 ++ leBytes 2 Config.emptyChangeDay ++ leBytes 2 Config.emptyChangeMinute
        | some r => leBytes 1 (match r.change with | .entry => 1 | .exit => 2)
            ++ leBytes 1 (match r.reason with | .rollover => 2 | .limit => 3) ++ leBytes 2 r.day ++ leBytes 2 r.minute)
      ++ leBytes 1 e.changeCount
      ++ leBytes 1 (match e.startCause with | .reset => 0 | .power => 1 | .restart => 2 | .cold => 3) := by
  have hstate : ([e.state.code] : List Byte) = leBytes 1 (match e.state with | .unset => 0 | .running => 1 | .frozen => 2) := by
    cases e.state <;> rfl
  have hcause : ([e.startCause.code] : List Byte) =
      leBytes 1 (match e.startCause with | .reset => 0 | .power => 1 | .restart => 2 | .cold => 3) := by
    cases e.startCause <;> rfl
  have hreason : ([freezeReasonCode e.reason] : List Byte) =
      leBytes 1 (match e.reason with | none => 0 | some .office => 1 | some .rollover => 2) := freezeReasonCode_eq e.reason
  rw [EngineControl.page, changeBytes_eq, ← hstate, ← hcause, ← hreason]
  simp only [List.append_assoc]
  rfl

theorem receiver_code (r : LaneReceiver) : ([r.code] : List Byte) = leBytes 1 (match r with
    | .idle => 0 | .receiving => 1 | .broken _ => 2 | .turnaround _ => 3 | .replying _ => 4
    | .mark => Config.receiverCodeInMark.toNat) := by
  cases r with
  | mark => exact byte_eq _
  | idle | receiving | broken | turnaround | replying => rfl

theorem portPage_eq (p : LanePort) : p.page = leBytes 2 p.counters.goodFrames ++ leBytes 2 p.counters.parityRefusals
    ++ leBytes 2 p.counters.badChecks ++ leBytes 2 p.counters.timeouts
    ++ leBytes 2 p.counters.unknownStations ++ leBytes 2 p.counters.replyLosses
    ++ leBytes 2 (p.rate / 100) ++ leBytes 2 (p.pendingRate.getD 0 / 100)
    ++ leBytes 1 (match p.receiver with
      | .idle => 0 | .receiving => 1 | .broken _ => 2 | .turnaround _ => 3 | .replying _ => 4
      | .mark => Config.receiverCodeInMark.toNat)
    ++ leBytes 1 ((if p.faults.parity then 1 else 0) + (if p.faults.badCheck then 2 else 0)
      + (if p.faults.timeout then 4 else 0) + (if p.faults.unknownStation then 8 else 0)
      + (if p.faults.replyLoss then 16 else 0)) := by
  rw [← receiver_code, ← flagByte_five]
  rfl

/-- The rate is 8,000,000 over the bit time to the nearest whole number, whatever a tie does (R175). -/
theorem roundedRate_nearest {t : Nat} (ht : 0 < t) :
    2 * 8000000 ≤ 2 * roundedRate t * t + t ∧ 2 * roundedRate t * t ≤ 2 * 8000000 + t := by
  have hdiv := Nat.div_add_mod 8000000 t
  have hmod := Nat.mod_lt 8000000 ht
  unfold roundedRate
  dsimp only
  generalize 8000000 / t = q at hdiv
  generalize 8000000 % t = r at hdiv hmod
  have hdown : 2 * q * t = 2 * (t * q) := by ring
  have hup : 2 * (q + 1) * t = 2 * (t * q) + 2 * t := by ring
  split_ifs <;> simp only [hdown, hup] <;> omega

theorem officePage_eq {o : OfficePort} {t : Nat} (h : o.bitTime = some t) : o.page = leBytes 1 1 ++ leBytes 2 t
    ++ leBytes 3 (roundedRate t) ++ [o.receiver.code]
    ++ leBytes 1 ((if o.flags.badRate then 1 else 0) + (if o.flags.timeout then 2 else 0)
      + (if o.flags.badCheck then 4 else 0) + (if o.flags.handshake then 8 else 0)) := by
  rw [← flagByte_four, OfficePort.page, h]
  rfl

/-- The set of causes as one byte (R181). -/
theorem causeFlags_byte (f : CauseFlags) : ([f.byte] : List Byte) = leBytes 1 ((if f.rollover then 1 else 0)
    + (if f.laneBusFault then 2 else 0) + (if f.freezeChange then 4 else 0) + (if f.blockedSeen then 8 else 0)
    + (if f.watchHit then 16 else 0) + (if f.journalHigh then 32 else 0) + (if f.journalFull then 64 else 0)
    + (if f.overdue then 128 else 0)) := flagByte_eight ..

theorem attentionPage_eq (a : AttentionUnit) : a.page = [a.pending.byte] ++ [a.acknowledged.byte] ++ [a.condition.byte]
    ++ [a.enabled.byte] ++ leBytes 1 (if a.taken then 1 else 0) ++ leBytes 1 (if a.asserted then 1 else 0) := by
  rw [← boolByte_eq, ← boolByte_eq]
  rfl

/-- Settles O32 (R164, R183): page by page. -/
theorem statusPages : Obligations.StatusPages := by
  refine ⟨Config.emptyChangeDay, Config.emptyChangeMinute, Config.receiverCodeInMark.toNat, fun s part hopen =>
    ⟨?_, ?_, fun hpart => ?_, ?_, ?_, ?_, ?_, ?_, fun t ht => ⟨roundedRate t, roundedRate_nearest, ?_⟩⟩⟩
  · exact status_effect hopen (by decide) (by decide) rfl
  · exact status_effect hopen (by decide) (by decide) (timePage_eq s.time)
  · refine status_effect hopen (by decide) (by simpa [statusParts] using Nat.lt_succ_of_le hpart) ?_
    change leBytes 1 s.holds.holds.length ++ (partStations part).flatMap s.stationBytes = _
    rw [partStations_eq hpart]
    exact congrArg (_ ++ ·) (congrArg List.flatten (List.map_congr_left fun station _ => stationBytes_eq s station))
  · refine status_effect hopen (by decide) (by decide) ?_
    exact congrArg List.flatten (List.map_congr_left fun w _ => watchPage_eq w)
  · exact status_effect hopen (by decide) (by decide) rfl
  · refine status_effect hopen (by decide) (by decide) ?_
    have hdue : ([boolByte s.journal.overdue] : List Byte) = leBytes 1 (if s.journal.timer = 0 then 1 else 0) := by
      rw [boolByte_eq]
      simp only [overdue_true]
    change s.journal.page = _
    rw [← hdue]
    rfl
  · exact status_effect hopen (by decide) (by decide) (enginePage_eq s.engine)
  · exact status_effect hopen (by decide) (by decide) (portPage_eq s.port)
  · refine status_effect hopen (by decide) (by decide) ?_
    have hasserted : s.attnAsserted = s.attention.asserted := by
      rw [State.attnAsserted, (supplied_iff s).2 (officeOpen_hears hopen).1, Bool.true_and]
    change s.officeSeek.office.page ++ s.attention.page = _
    rw [officePage_eq (o := s.officeSeek.office) ht, attentionPage_eq, causeFlags_byte, causeFlags_byte, causeFlags_byte,
      causeFlags_byte, hasserted]
    simp only [List.append_assoc]
    rfl

end Sys2Proof.Machine
end

/-! # The office link port: commands answered, frames judged, breaks and the ends of sending (O10 to O15) -/

section
namespace Sys2Proof.Machine

/-! ## Bodies that spell nothing -/

theorem bodyOf_bind_none {α β : Type} {x : Option α} {body : List Byte} {len : Nat} {ok : Bool} {value : α → β}
    (h : body.length ≠ len ∨ ok = false ∨ x = none) : (x.bind fun a => bodyOf body len ok (value a)) = none := by
  cases x with
  | none => rfl
  | some a => exact bodyOf_none (h.imp_right fun h => h.elim id fun hx => nomatch hx)

theorem bodyOf_none_of_length {α : Type} {body : List Byte} {len : Nat} {ok : Bool} {value : α} (h : body.length ≠ len ∨ False) :
    bodyOf body len ok value = none :=
  bodyOf_none (h.imp_right False.elim)

theorem enrolBody_none {b : List Byte} (h : b.length ≠ 8 ∨ noCard (field b 0 4) ∨ 7 < field b 4 1) : enrolBody b = none :=
  bodyOf_bind_none (h.imp_right (Or.imp cardInRange_false.2 classIndex_none))

theorem reclassBody_none {b : List Byte} (h : b.length ≠ 5 ∨ noCard (field b 0 4) ∨ 7 < field b 4 1) : reclassBody b = none :=
  bodyOf_bind_none (h.imp_right (Or.imp cardInRange_false.2 classIndex_none))

theorem cardBody_none {b : List Byte} (h : b.length ≠ 4 ∨ noCard (field b 0 4)) : cardBody b = none :=
  bodyOf_none (h.imp_right cardInRange_false.2)

theorem adjustBody_none {b : List Byte} (h : b.length ≠ 8 ∨ noCard (field b 0 4)) : adjustBody b = none :=
  bodyOf_none (h.imp_right cardInRange_false.2)

theorem creditBody_none {b : List Byte} (h : b.length ≠ 7 ∨ noCard (field b 0 4)) : creditBody b = none :=
  bodyOf_none (h.imp_right cardInRange_false.2)

theorem purseNextBody_none {b : List Byte} (h : b.length ≠ 4 ∨ 99999999 < field b 0 4) : purseNextBody b = none :=
  bodyOf_none (h.imp_right fun h => decide_eq_false (not_le.2 h))

theorem classSetBody_none {b : List Byte} (h : b.length ≠ 13 ∨ 7 < field b 0 1) : classSetBody b = none :=
  bodyOf_bind_none (h.imp_right fun h => .inr (classIndex_none h))

theorem rolloverSetBody_none {b : List Byte} (h : b.length ≠ 3 ∨ 1439 < field b 0 2 ∨ 1 < field b 2 1) :
    rolloverSetBody b = none :=
  bodyOf_none (h.imp_right fun h => Bool.and_eq_false_iff.2 (h.imp (fun h => decide_eq_false (not_lt.2 h))
    fun h => decide_eq_false (not_le.2 h)))

theorem stationKind_none {n : Nat} (h : 2 < n) : StationKind.ofCode n = none := by
  unfold StationKind.ofCode
  rw [if_neg (by omega), if_neg (by omega), if_neg (by omega)]

theorem stationSetBody_none {b : List Byte} (h : b.length ≠ 5 ∨ field b 0 1 = 0 ∨ 14 < field b 0 1 ∨ 2 < field b 1 1) :
    stationSetBody b = none := by
  refine bodyOf_bind_none (h.imp_right fun h => ?_)
  rw [Bool.and_eq_false_iff, decide_eq_false_iff_not, decide_eq_false_iff_not]
  rcases h with h | h | h
  · exact .inl (.inl (by omega))
  · exact .inl (.inr (by omega))
  · exact .inr (stationKind_none h)

theorem clockSetBody_none {b : List Byte} (h : b.length ≠ 5 ∨ 1439 < field b 2 2 ∨ 59 < field b 4 1) : clockSetBody b = none :=
  bodyOf_none (h.imp_right fun h => Bool.and_eq_false_iff.2 (h.imp (fun h => decide_eq_false (not_lt.2 h))
    fun h => decide_eq_false (not_lt.2 h)))

theorem batchOpenBody_none {b : List Byte} (h : b.length ≠ 8 ∨ field b 0 2 = 0) : batchOpenBody b = none :=
  bodyOf_none (h.imp_right fun h => decide_eq_false (not_not.2 h))

theorem batchResultBody_none {b : List Byte} (h : b.length ≠ 2 ∨ 512 < field b 0 2) : batchResultBody b = none :=
  bodyOf_none (h.imp_right fun h => decide_eq_false (not_le.2 h))

theorem jnlConfirmBody_none {b : List Byte} (h : b.length ≠ 4 ∨ field b 0 4 = 0) : jnlConfirmBody b = none :=
  bodyOf_none (h.imp_right fun h => decide_eq_false (not_not.2 h))

theorem watchSetBody_none {b : List Byte} (h : b.length ≠ 5 ∨ 3 < field b 0 1 ∨ 99999999 < field b 1 4) :
    watchSetBody b = none :=
  bodyOf_none (h.imp_right fun h => Bool.and_eq_false_iff.2 (h.imp (fun h => decide_eq_false (not_le.2 h))
    fun h => decide_eq_false (not_le.2 h)))

theorem field_head (b : List Byte) : field b 0 1 = (b.headD 0).toNat := by
  cases b <;> simp [field, leNat]

/-- A mask of 64 or more names cause 6 or 7. -/
theorem attnEnableBody_none {b : List Byte} (h : b.length ≠ 1 ∨ 64 ≤ field b 0 1) : attnEnableBody b = none := by
  refine bodyOf_none (h.imp_right fun h => ?_)
  have hbits : ∀ m : BitVec 8, 64 ≤ m.toNat → (!m.getLsbD 6 && !m.getLsbD 7) = false := by decide
  exact hbits _ (field_head b ▸ h)

theorem statusBody_none {b : List Byte} (h : b.length ≠ 2 ∨ 7 < field b 0 1 ∨
    (if field b 0 1 = 2 then 5 else if field b 0 1 = 3 then 2 else 1) ≤ field b 1 1) : statusBody b = none := by
  refine bodyOf_none (h.imp_right fun h => decide_eq_false ?_)
  unfold statusParts
  split_ifs at h ⊢ <;> omega

theorem withBody_refused {α : Type} {read : Option α} (h : read = none) (work : α → State → State × OfficeAnswer) (s : State) :
    withBody read work s = (s, .refuse .badRequest) := by
  rw [h, withBody_none]

/-- A body that spells nothing is refused before anything is read (R14). -/
theorem commandWork_refused {c : Instr} {kind : Byte} {len : Nat} {body : List Byte} (hf : officeForm c = some (kind, len, body))
    (h : body.length ≠ len ∨ badField c) (s : State) : commandWork kind body s = (s, .refuse .badRequest) := by
  cases c with
  | enrol b => cases hf; exact show enrolWork body s = _ from withBody_refused (enrolBody_none h) _ s
  | reclass b => cases hf; exact show reclassWork body s = _ from withBody_refused (reclassBody_none h) _ s
  | retire b => cases hf; exact show retireWork body s = _ from withBody_refused (cardBody_none h) _ s
  | block b => cases hf; exact show blockWork body s = _ from withBody_refused (cardBody_none h) _ s
  | unblock b => cases hf; exact show unblockWork body s = _ from withBody_refused (cardBody_none h) _ s
  | purseRead b => cases hf; exact show purseReadWork body s = _ from withBody_refused (cardBody_none h) _ s
  | adjust b => cases hf; exact show adjustWork body s = _ from withBody_refused (adjustBody_none h) _ s
  | credit b => cases hf; exact show creditWork body s = _ from withBody_refused (creditBody_none h) _ s
  | batchItem b => cases hf; exact show batchItemWork body s = _ from withBody_refused (creditBody_none h) _ s
  | purseNext b => cases hf; exact show purseNextWork body s = _ from withBody_refused (purseNextBody_none h) _ s
  | classSet b => cases hf; exact show classSetWork body s = _ from withBody_refused (classSetBody_none h) _ s
  | rolloverSet b => cases hf; exact show rolloverSetWork body s = _ from withBody_refused (rolloverSetBody_none h) _ s
  | stationSet b => cases hf; exact show stationSetWork body s = _ from withBody_refused (stationSetBody_none h) _ s
  | clockSet b => cases hf; exact show clockSetWork body s = _ from withBody_refused (clockSetBody_none h) _ s
  | batchOpen b => cases hf; exact show batchOpenWork body s = _ from withBody_refused (batchOpenBody_none h) _ s
  | batchResult b => cases hf; exact show batchResultWork body s = _ from withBody_refused (batchResultBody_none h) _ s
  | jnlConfirm b => cases hf; exact show jnlConfirmWork body s = _ from withBody_refused (jnlConfirmBody_none h) _ s
  | watchSet b => cases hf; exact show watchSetWork body s = _ from withBody_refused (watchSetBody_none h) _ s
  | attnEnable b => cases hf; exact show attnEnableWork body s = _ from withBody_refused (attnEnableBody_none h) _ s
  | status b => cases hf; exact show statusWork body s = _ from withBody_refused (statusBody_none h) _ s
  | windowSet b => cases hf; exact show windowSetWork body s = _ from withBody_refused (bodyOf_none_of_length h) _ s
  | journalSet b => cases hf; exact show journalSetWork body s = _ from withBody_refused (bodyOf_none_of_length h) _ s
  | laneRateSet b => cases hf; exact show laneRateSetWork body s = _ from withBody_refused (bodyOf_none_of_length h) _ s
  | freeze b => cases hf; exact show freezeWork body s = _ from withBody_refused (bodyOf_none_of_length h) _ s
  | go b => cases hf; exact show goWork body s = _ from withBody_refused (bodyOf_none_of_length h) _ s
  | thaw b => cases hf; exact show thawWork body s = _ from withBody_refused (bodyOf_none_of_length h) _ s
  | restart b => cases hf; exact show restartWork body s = _ from withBody_refused (bodyOf_none_of_length h) _ s
  | batchClose b => cases hf; exact show batchCloseWork body s = _ from withBody_refused (bodyOf_none_of_length h) _ s
  | batchAbort b => cases hf; exact show batchAbortWork body s = _ from withBody_refused (bodyOf_none_of_length h) _ s
  | jnlNext b => cases hf; exact show jnlNextWork body s = _ from withBody_refused (bodyOf_none_of_length h) _ s
  | jnlRewind b => cases hf; exact show jnlRewindWork body s = _ from withBody_refused (bodyOf_none_of_length h) _ s
  | attnTake b => cases hf; exact show attnTakeWork body s = _ from withBody_refused (bodyOf_none_of_length h) _ s
  | attnDone b => cases hf; exact show attnDoneWork body s = _ from withBody_refused (bodyOf_none_of_length h) _ s
  | statusClear b => cases hf; exact show statusClearWork body s = _ from withBody_refused (bodyOf_none_of_length h) _ s
  | _ => cases hf

/-- Settles O10 (R14, R172): a command refuses and leaves the state, or does one `Work`, which leaves the link flags. -/
theorem officeCommandAnswered : Obligations.OfficeCommandAnswered := by
  refine fun s c kind len body hf hopen => ⟨fun hbad => ?_, ?_⟩
  · rw [exec_officeForm hf, takeCommand_refuse hopen (commandWork_refused hf hbad s.officeSeek)]
  · obtain ⟨hwork, hrefused⟩ := commandWork_answers kind body s.officeSeek
    obtain ⟨hsupply, hpending⟩ := hwork.supply_pending
    by_cases hok : (commandWork kind body s.officeSeek).2.status = .ok
    · refine ⟨(commandWork kind body s.officeSeek).1, .ok, (commandWork kind body s.officeSeek).2.body, ?_, ?_, hpending,
        hsupply, fun h => absurd rfl h⟩
      · rw [exec_officeForm hf, takeCommand_open hopen]
        rcases hwork.office with ho | ho <;> rw [State.buildReply, State.replied, OfficePort.replied, hok, ho] <;> rfl
      · rcases hwork.office with ho | ho <;> rw [ho] <;> rfl
    · obtain ⟨hstate, hbody⟩ := hrefused hok
      refine ⟨s, (commandWork kind body s.officeSeek).2.status, [], ?_, rfl, rfl, rfl, fun _ => ⟨rfl, rfl⟩⟩
      rw [exec_officeForm hf, takeCommand_open hopen, hstate, State.buildReply, hbody]
      rfl

/-! ## Commands that are not taken -/

/-- Settles O11 (R153, R174): a start break leaves the link unrated, or the reply period on. -/
theorem commandNotTaken : Obligations.CommandNotTaken := by
  intro s c kind len body hf
  have hbusy : s.OfficeHears → s.office.replyPeriod = true → exec c s = .next { s with office := { s.office with
      receiver := .seeking, flags := { s.office.flags with handshake := true } } } := fun hh hr => by
    rw [exec_officeForm hf, takeCommand_busy hh hr]
  have hdeaf : ¬ s.OfficeHears → exec c s = .next s := fun hh => by
    rw [exec_officeForm hf, takeCommand_deaf hh]
  refine ⟨hbusy, hdeaf, fun answer ht hs => ?_⟩
  by_cases hh : s.OfficeHears
  · cases answer with
    | true => exact .inr (hbusy hh (by rw [OfficePort.replyPeriod, ht]))
    | false =>
      obtain ⟨-, -, -, -, -, -, -, -, -, -, -, -, -, hunrated, -⟩ := hs
      exact absurd (hunrated ht) hh.2.1
  · exact .inl (hdeaf hh)

/-! ## Frames -/

theorem officeFrameEnd_hears {s : State} (h : s.OfficeHears) (kind : Byte) (body : List Byte) (check : Byte) :
    exec (.officeFrameEnd kind body check) s = .next (s.judgeOfficeFrame kind body check) :=
  congrArg _ (if_pos ((officeReceives_iff s).2 h))

theorem officeFrameEnd_deaf {s : State} (h : ¬ s.OfficeHears) (kind : Byte) (body : List Byte) (check : Byte) :
    exec (.officeFrameEnd kind body check) s = .next s :=
  congrArg _ (if_neg (mt (officeReceives_iff s).1 h))

/-- A whole frame is its command, or is dropped for its length or its sum (R171). -/
theorem judgeOfficeFrame_good {s : State} {kind : Byte} {body : List Byte} {check : Byte} (hl : body.length ≤ 32)
    (hsum : officeSumZero kind body check) : s.judgeOfficeFrame kind body check = s.takeCommand (commandWork kind body) := by
  rw [State.judgeOfficeFrame, if_neg (not_lt.2 hl), officeSumGood_iff.2 hsum, if_neg Bool.noConfusion]

theorem commandWork_unknown {kind : Byte} (h : kind.toNat = 0 ∨ 34 < kind.toNat) (body : List Byte) (s : State) :
    commandWork kind body s = (s, .refuse .badRequest) := by
  have hwork : commandWork kind body = fun s => (s, .refuse .badRequest) := by
    unfold commandWork
    split
    case h_35 => rfl
    all_goals omega
  rw [hwork]

/-- Settles O12 (R171, R172). -/
theorem officeFrameJudged : Obligations.OfficeFrameJudged := by
  refine fun s kind body check => ⟨fun hl hsum c len hf => ?_, fun hh => ⟨fun hl => ?_, fun hl hsum => ?_, fun hl hsum hk => ?_⟩⟩
  · rw [exec_officeForm hf]
    by_cases hh : s.OfficeHears
    · rw [officeFrameEnd_hears hh, judgeOfficeFrame_good hl hsum]
    · rw [officeFrameEnd_deaf hh, takeCommand_deaf hh]
  · rw [officeFrameEnd_hears hh, State.judgeOfficeFrame, if_pos hl]
    rfl
  · have hbad : officeSumGood kind body check = false := by rwa [← Bool.not_eq_true, officeSumGood_iff]
    rw [officeFrameEnd_hears hh, State.judgeOfficeFrame, if_neg (not_lt.2 hl), if_pos hbad]
    rfl
  · rw [officeFrameEnd_hears hh, judgeOfficeFrame_good hl hsum]
    split
    next hr => rw [takeCommand_busy hh hr]
    next hr =>
      rw [State.takeCommand, if_pos ((officeReceives_iff s).2 hh), if_neg hr, commandWork_unknown hk]
      rfl

/-! ## Reception -/

/-- Settles O13 (R168, R170, R171). -/
theorem officeReceptionEvents : Obligations.OfficeReceptionEvents := by
  refine fun s => ⟨fun hh => ⟨fun hr => ?_, ?_, ?_, fun hr => ?_⟩, fun hp => ⟨fun hb => ?_, fun hr => ?_⟩⟩
  · exact congrArg _ (if_pos ⟨(officeReceives_iff s).2 hh, hr⟩)
  · exact congrArg _ (if_pos ((officeReceives_iff s).2 hh))
  · exact congrArg _ (if_pos ((officeReceives_iff s).2 hh))
  · exact congrArg _ (if_pos ⟨(officeReceives_iff s).2 hh, hr⟩)
  · exact congrArg _ (if_pos ⟨(supplied_iff s).2 hp, Option.isSome_iff_ne_none.2 hb⟩)
  · exact congrArg _ (if_pos ⟨(supplied_iff s).2 hp, hr⟩)

/-! ## Breaks -/

theorem isBreak_iff (o : OfficePort) (periods : Nat) :
    o.isBreak periods = true ↔ ¬ periods < (match o.bitTime with | none => 685 | some old => 10 * old) := by
  rw [OfficePort.isBreak, not_lt]
  cases o.bitTime with
  | none => exact decide_eq_true_iff
  | some t => exact decide_eq_true_iff

theorem union_clear (f : LinkFlags) : f.union .clear = f := by
  obtain ⟨badRate, timeout, badCheck, handshake⟩ := f
  simp [LinkFlags.union, LinkFlags.clear]

/-- Settles O14 (R168, R169). -/
theorem breakDecidesRate : Obligations.BreakDecidesRate := by
  intro s periods t hp h1 h2
  have ht : bitTimeOf periods = t := by
    unfold bitTimeOf
    omega
  have hgood : bitTimeGood t = true ↔ 69 ≤ t ∧ t ≤ 1667 := by
    rw [bitTimeGood, Bool.and_eq_true, decide_eq_true_eq, decide_eq_true_eq]
  change Host.Outcome.next (if s.supplied = true ∧ s.office.isBreak periods = true then s.setOffice (s.office.takeBreak periods)
    else s) = _
  refine congrArg _ ?_
  split
  next hbreak =>
    refine Eq.trans ?_ (if_neg ((isBreak_iff _ _).1 hbreak.2)).symm
    rw [OfficePort.takeBreak, ht]
    by_cases hg : 69 ≤ t ∧ t ≤ 1667
    · rw [if_pos hg, if_pos (hgood.2 hg), OfficePort.carriedFlags]
      cases s.office.transmit with
      | reply r => rfl
      | idle => rw [union_clear]; rfl
      | answeringBreak => rw [union_clear]; rfl
      | startBreak answer => rw [union_clear]; rfl
    · rw [if_neg hg, if_neg (mt hgood.1 hg)]
      rfl
  next hnone =>
    exact (if_pos (not_not.1 fun h => hnone ⟨(supplied_iff s).2 hp, (isBreak_iff _ _).2 h⟩)).symm

theorem endReplyPeriod_idle {s : State} (h : s.office.restartPending = false) :
    s.endReplyPeriod = s.setOffice { s.office with transmit := .idle } := by
  rw [State.endReplyPeriod, h, if_neg Bool.noConfusion]

/-- Settles O15 (R153, R169, R173). -/
theorem officeSendingEnds : Obligations.OfficeSendingEnds := by
  refine fun s r hp => ⟨fun ht hr => ?_, fun ht hr => ?_, fun answer ht => ?_⟩
  · exact congrArg _ ((if_pos ⟨(supplied_iff s).2 hp, by rw [ht]; rfl⟩).trans (endReplyPeriod_idle hr))
  · exact congrArg _ ((if_pos ⟨(supplied_iff s).2 hp, ht⟩).trans (endReplyPeriod_idle hr))
  · refine congrArg _ ((if_pos ((supplied_iff s).2 hp)).trans ?_)
    rw [ht]
    rfl

end Sys2Proof.Machine
end

/-! # The lane bus port: frames, reception, turnaround and replies (O33 to O35) -/

section
namespace Sys2Proof.Machine

/-! ## Frames and reception -/

theorem enterIdle_atIdle (p : LanePort) : p.enterIdle = p.atIdle := by
  rw [LanePort.enterIdle, LanePort.atIdle]
  cases p.pendingRate <;> rfl

theorem state_enterIdle (s : State) : s.enterIdle = s.setPort s.port.atIdle := by
  rw [State.enterIdle, enterIdle_atIdle]

theorem hears_iff (r : LaneReceiver) : r.hears = true ↔ r = .idle ∨ r = .receiving := by
  cases r <;> simp [LaneReceiver.hears]

/-- Settles O33 (R158, R160). -/
theorem laneFrameJudged : Obligations.LaneFrameJudged := by
  intro s address kind body check hp hr
  refine congrArg _ ((if_pos ⟨(supplied_iff s).2 hp, (hears_iff _).2 hr⟩).trans ?_)
  rw [State.judgeLaneFrame]
  by_cases hl : 12 < body.length
  · exact (if_pos hl).trans (if_pos hl).symm
  rw [if_neg (show ¬ Config.maxLaneBody < body.length from hl), if_neg hl]
  by_cases hsum : laneSumZero address kind body check
  · rw [laneSumGood_iff.2 hsum, if_neg Bool.noConfusion, if_neg (not_not.2 hsum), state_enterIdle]
    rfl
  · rw [if_pos hsum, if_pos (eq_false_of_ne_true (mt laneSumGood_iff.1 hsum)), state_enterIdle]
    rfl

/-- Settles O34 (R156 to R159, R165). -/
theorem laneReceptionEvents : Obligations.LaneReceptionEvents := by
  intro s hp
  have hs : s.supplied = true := (supplied_iff s).2 hp
  refine ⟨fun hi => congrArg _ (if_pos ⟨hs, hi⟩), fun hh => ⟨congrArg _ (if_pos ⟨hs, (hears_iff _).2 hh⟩),
    congrArg _ (if_pos ⟨hs, (hears_iff _).2 hh⟩)⟩, fun hr => congrArg _ ((if_pos ⟨hs, hr⟩).trans (state_enterIdle _)),
    fun refusal hb => congrArg _ ((if_pos ⟨hs, by rw [hb, LaneReceiver.isBroken]⟩).trans (state_enterIdle s)),
    fun hm => congrArg _ ((if_pos ⟨hs, hm⟩).trans (state_enterIdle s))⟩

/-! ## The lane request unit does not look at the port -/

/-- What is done to a state does not depend on the lane bus port, which it leaves as it is. -/
def PortApart (f : State → State) : Prop := ∀ (s : State) (p : LanePort), f (s.setPort p) = (f s).setPort p

/-- The same of what also answers. -/
def PortFree {α : Type} (f : State → State × α) : Prop :=
  ∀ (s : State) (p : LanePort), f (s.setPort p) = ((f s).1.setPort p, (f s).2)

/-- A choice between two operations on a condition that the port does not enter. -/
theorem setPort_ite {c d : Prop} [Decidable c] [Decidable d] {a b x y : State} {p : LanePort} (hc : c ↔ d) (ha : x = a.setPort p)
    (hb : y = b.setPort p) : (if c then x else y) = (if d then a else b).setPort p := by
  rw [apply_ite (State.setPort · p), ← ha, ← hb, if_congr hc rfl rfl]

theorem matchWatch_apart (station card : Nat) (k : RequestKind) : PortApart fun s => s.matchWatch station card k :=
  fun _ _ => setPort_ite Iff.rfl rfl rfl

theorem appendRecord_apart (source : Nat) (body : RecordBody) : PortApart fun s => s.appendRecord source body := by
  intro s p
  simp only [appendRecord_eq]
  rfl

theorem openHold_apart (station card g : Nat) : PortApart fun s => s.openHold station card g :=
  fun _ _ => setPort_ite Iff.rfl rfl rfl

theorem applyCharge_apart (p : Purse) (c : Charge) (station : Nat) : PortApart fun s => s.applyCharge p c station :=
  fun s port => appendRecord_apart station (c.record p) (((s.modifyPurse p.card (fun q => q.charged c s.time.day)).addFloat
    (-(c.net : Int))).addDebitTotals c.net c.subsidy) port

theorem applyCredit_apart (p : Purse) (amount source : Nat) (body : Int → RecordBody) :
    PortApart fun s => s.applyCredit p amount source body :=
  fun s port => appendRecord_apart source (body (p.balance + amount)) (((s.modifyPurse p.card
    (fun q => { q with balance := q.balance + amount })).addFloat amount).addCreditTotal amount) port

theorem portFree_refuse (a : LaneAnswer) : PortFree fun s => (s, a) := fun _ _ => rfl

/-- A choice on a condition that the port does not enter. -/
theorem PortFree.ite {α : Type} {c : State → Prop} [∀ s, Decidable (c s)] {f g : State → State × α}
    (hc : ∀ s p, c (s.setPort p) ↔ c s) (hf : PortFree f) (hg : PortFree g) : PortFree fun s => if c s then f s else g s := by
  intro s p
  dsimp only
  rw [if_congr (hc s p) (hf s p) (hg s p)]
  split <;> rfl

theorem refresh_free (p : Purse) (station asked : Nat) : PortFree fun s => s.refresh p station asked := by
  intro s port
  have hg : (s.setPort port).grantedAmount p asked = s.grantedAmount p asked := rfl
  simp only [State.refresh, hg]
  cases s.grantedAmount p asked with
  | error st => rfl
  | ok g => rfl

theorem newHold_free (p : Purse) (station asked : Nat) : PortFree fun s => s.newHold p station asked := by
  refine .ite (fun _ _ => Iff.rfl) (portFree_refuse _) (.ite (fun _ _ => Iff.rfl) (portFree_refuse _) fun s port => ?_)
  have hg : (s.setPort port).grantedAmount p asked = s.grantedAmount p asked := rfl
  rw [hg]
  cases s.grantedAmount p asked with
  | error st => rfl
  | ok g => exact Prod.ext (openHold_apart station p.card g s port) rfl

theorem holdOwner_free (station : Nat) (p : Purse) (asked : Nat) : PortFree (holdOwner station p asked) := by
  unfold holdOwner
  cases p.holdStation with
  | none => exact newHold_free p station asked
  | some st =>
    by_cases h : st = station
    · exact fun s port => (if_pos h).trans ((refresh_free p station asked s port).trans (by simp only [if_pos h]))
    · exact fun s port => (if_neg h).trans (by simp only [if_neg h])

theorem charge_free (p : Purse) (station gross kept : Nat) (s : State) (port : LanePort) :
    (s.setPort port).charge p station gross kept = ((s.charge p station gross kept).1,
      (s.charge p station gross kept).2.1.setPort port, (s.charge p station gross kept).2.2) := by
  have hc : (s.setPort port).chargeOf p gross = s.chargeOf p gross := rfl
  have hr : (s.setPort port).chargeRefusal p (s.chargeOf p gross) kept = s.chargeRefusal p (s.chargeOf p gross) kept := rfl
  simp only [State.charge, hc, hr]
  cases s.chargeRefusal p (s.chargeOf p gross) kept with
  | some st => rfl
  | none => exact Prod.ext rfl (Prod.ext (applyCharge_apart p _ station s port) rfl)

theorem saleOwner_free (station : Nat) (p : Purse) (gross : Nat) : PortFree (saleOwner station p gross) :=
  fun s port => congrArg Prod.snd (charge_free p station gross (s.keptForOther p station) s port)

theorem settleOwner_free (station : Nat) (p : Purse) (gross : Nat) : PortFree (settleOwner station p gross) := by
  intro s port
  have hh : (s.setPort port).hold? p.card station = s.hold? p.card station := rfl
  unfold settleOwner
  rw [hh]
  cases s.hold? p.card station with
  | none =>
    exact PortFree.ite (c := fun s => s.lastExpired station = some p.card)
      (f := fun s => (s.setLastExpired station none, .refuse p.card .holdExpired)) (fun _ _ => Iff.rfl) (fun _ _ => rfl)
      (portFree_refuse _) s port
  | some h =>
    dsimp only
    rw [charge_free]
    rcases s.charge p station gross 0 with ⟨_ | st, t, a⟩ <;> rfl

theorem dropOwner_free (station : Nat) (p : Purse) (amount : Nat) : PortFree (dropOwner station p amount) := by
  intro s port
  have hh : (s.setPort port).hold? p.card station = s.hold? p.card station := rfl
  unfold dropOwner
  rw [hh]
  cases s.hold? p.card station <;> rfl

theorem cashOwner_free (station : Nat) (p : Purse) (amount : Nat) : PortFree (cashOwner station p amount) :=
  .ite (fun _ _ => Iff.rfl) (portFree_refuse _) (.ite (fun _ _ => Iff.rfl) (portFree_refuse _)
    (.ite (fun _ _ => Iff.rfl) (portFree_refuse _) (.ite (fun _ _ => Iff.rfl) (portFree_refuse _)
      fun s port => Prod.ext (applyCredit_apart p amount station _ s port) rfl)))

theorem commonChecks_free {k : RequestKind} {station : Nat} {body : List Byte} {owner : Purse → Nat → State → State × LaneAnswer}
    (ho : ∀ p amount, PortFree (owner p amount)) : PortFree fun s => s.commonChecks k station body owner := by
  intro s port
  simp only [State.commonChecks]
  cases k.read body with
  | none => rfl
  | some r =>
    obtain ⟨card, amount⟩ := r
    have hw : (s.setPort port).matchWatch station card k = (s.matchWatch station card k).setPort port :=
      matchWatch_apart station card k s port
    dsimp only
    rw [hw]
    generalize s.matchWatch station card k = w
    by_cases hk : k.allowed (w.station station).kind = false
    · rw [if_pos hk]
      exact if_pos hk
    rw [if_neg hk]
    refine (if_neg hk).trans ?_
    have he : (w.setPort port).engine = w.engine := rfl
    have hp : (w.setPort port).purse? card = w.purse? card := rfl
    rw [he]
    cases k.engineRefusal w.engine.state with
    | some st => rfl
    | none =>
      dsimp only
      rw [hp]
      cases w.purse? card with
      | none => rfl
      | some p =>
        exact PortFree.ite (c := fun _ => p.state = .blocked)
          (f := fun s => (s.seeBlocked station card, LaneAnswer.refuse card .blocked)) (fun _ _ => Iff.rfl) (fun _ _ => rfl)
          (ho p amount) w port

/-- The owning block of each kind of request (R90). -/
theorem takeChecked_free (k : RequestKind) (station : Nat) (body : List Byte) {owner : Purse → Nat → State → State × LaneAnswer}
    (ho : ∀ p amount, PortFree (owner p amount)) :
    PortFree fun s => State.answerRequest station k.code (s.commonChecks k station body owner) := by
  intro s port
  have h : (s.setPort port).commonChecks k station body owner = _ := commonChecks_free ho s port
  dsimp only
  rw [h]
  rfl

/-- Every lane request is taken with work that does not look at the port. -/
theorem exec_laneForm_taken {c : Instr} {station : Nat} {kind : Byte} {body : List Byte}
    (h : laneForm c = some (station, kind, body)) :
    ∃ serve, PortFree serve ∧ ∀ s, exec c s = .next (s.takeRequest station kind body serve) := by
  cases c with
  | bal => cases h; exact ⟨_, takeChecked_free .bal station body fun _ _ _ _ => rfl, fun _ => rfl⟩
  | hold => cases h; exact ⟨_, takeChecked_free .hold station body (holdOwner_free station), fun _ => rfl⟩
  | settle => cases h; exact ⟨_, takeChecked_free .settle station body (settleOwner_free station), fun _ => rfl⟩
  | sale => cases h; exact ⟨_, takeChecked_free .sale station body (saleOwner_free station), fun _ => rfl⟩
  | drop => cases h; exact ⟨_, takeChecked_free .drop station body (dropOwner_free station), fun _ => rfl⟩
  | cash => cases h; exact ⟨_, takeChecked_free .cash station body (cashOwner_free station), fun _ => rfl⟩
  | repeatReply =>
    cases h
    exact ⟨fun s => (s, some (s.repeatReply station)), fun _ _ => rfl, fun _ => rfl⟩
  | unknownRequestKind =>
    obtain ⟨hk, he⟩ := Option.ite_none_right_eq_some.1 h
    cases he
    exact ⟨fun s => State.answerRequest station kind (s, .refuse 0 .badRequest), fun _ _ => rfl,
      fun s => congrArg _ (if_neg (by omega))⟩
  | _ => cases h

/-- A request the port no longer waits for: the oldest frame handed on is taken, and the rest of the port is left. -/
theorem takeBack_preempted {p : LanePort} {f : LaneFrame} {later : List LaneFrame} (hh : p.handed = f :: later)
    (hw : p.receiver ≠ .turnaround .awaited ∨ later ≠ []) (r : Option LaneReply) :
    p.takeBack f r = { p with handed := later } := by
  have hwait : ¬ (later = [] ∧ p.receiver = .turnaround .awaited) := fun h => hw.elim (· h.2) (· h.1)
  refine (if_pos (by rw [hh]; rfl)).trans ?_
  dsimp only
  rw [hh, List.tail_cons, if_neg hwait]

/-- What a request leaves, were its frame the one waited for, fixes what it leaves when its frame has been pre-empted. -/
theorem takeRequest_preempted {s : State} {f : LaneFrame} {later : List LaneFrame} {serve : State → State × Option LaneReply}
    (hfree : PortFree serve) (hs : s.supplied = true) (hm : s.port.receiver ≠ .mark) (hh : s.port.handed = f :: later)
    (hw : s.port.receiver ≠ .turnaround .awaited ∨ later ≠ []) (p : LanePort) (hp : p.receiver ≠ .mark) :
    s.takeRequest f.station f.kind f.body serve =
      { (s.setPort p).takeRequest f.station f.kind f.body serve with port := { s.port with handed := later } } := by
  have hport : (serve s).1.port = s.port := congrArg (fun r => r.1.port) (hfree s s.port)
  have hserved : s.laneServed = true := by rw [State.laneServed, hs, Bool.true_and, bne_iff_ne]; exact hm
  have hserved' : (s.setPort p).laneServed = true := by
    rw [State.laneServed, show (s.setPort p).supplied = true from hs, Bool.true_and, bne_iff_ne]
    exact hp
  rw [State.takeRequest, State.takeRequest, if_pos hserved, if_pos hserved']
  by_cases hk : (s.station f.station).kind = .none
  · simp only [if_pos hk, if_pos (show ((s.setPort p).station f.station).kind = .none from hk), takeBack_preempted hh hw]
    rfl
  · simp only [if_neg hk, if_neg (show ¬ ((s.setPort p).station f.station).kind = .none from hk), hfree s p, hport,
      takeBack_preempted hh hw]
    rfl

/-- Settles O35 (R85, R96, R98, R161, R162): the work of a request does not look at the port. -/
theorem turnaroundAndReply : Obligations.TurnaroundAndReply := by
  intro s r hp
  have hs : s.supplied = true := (supplied_iff s).2 hp
  refine ⟨fun hr => ⟨?_, ?_⟩, fun hr => ?_, fun hr => ?_, fun hr => ?_, fun hr => ⟨?_, fun h1 h14 => ?_⟩,
    fun c f later t hf hm hh hw hawaited => ?_⟩
  · refine congrArg _ ((if_pos hs).trans ?_)
    rw [State.endTurnaround, hr]
    rfl
  · refine congrArg _ ((if_pos hs).trans ?_)
    rw [State.preemptReply, hr]
    rfl
  · refine congrArg _ ((if_pos hs).trans ?_)
    rw [State.endTurnaround, hr]
    exact state_enterIdle s
  · refine congrArg _ ((if_pos hs).trans ?_)
    rw [State.endTurnaround, hr]
  · refine congrArg _ ((if_pos hs).trans ?_)
    rcases hr with hr | hr <;> (rw [State.preemptReply, hr]; rfl)
  · refine congrArg _ ((if_pos hs).trans ?_)
    rw [State.collideReply, hr]
    rfl
  · refine congrArg _ ((if_pos hs).trans ?_)
    rw [State.completeReply, hr]
    refine (state_enterIdle _).trans ?_
    rw [State.setDelivered, State.setLastReply, stationSlot_eq (by omega)]
    rfl
  · obtain ⟨serve, hfree, hexec⟩ := exec_laneForm_taken hf
    rw [hexec] at hawaited ⊢
    cases hawaited
    exact congrArg _ (takeRequest_preempted hfree hs hm hh hw _ (by simp))

end Sys2Proof.Machine
end

/-! # The lane requests: the common checks, BAL, HOLD, SETTLE, SALE, DROP, CASH and REPEAT (O36 to O42) -/

section
namespace Sys2Proof.Machine

/-! ## The common checks -/

/-- The block that does step 7 of a request (R90). -/
def RequestKind.owner : RequestKind → Nat → Purse → Nat → State → State × LaneAnswer
  | .bal, _ => balOwner
  | .hold, station => holdOwner station
  | .settle, station => settleOwner station
  | .sale, station => saleOwner station
  | .drop, station => dropOwner station
  | .cash, station => cashOwner station

theorem exec_request (k : RequestKind) (station : Nat) (body : List Byte) (s : State) :
    exec (k.request station body) s = .next (s.takeChecked k station body (k.owner station)) := by
  cases k <;> rfl

/-- Watch matching writes the watch entries and the attention causes only. -/
theorem watched_writes (s : State) (station card : Nat) (k : RequestKind) :
    ∃ lane attention, s.watched station card k = { s with lane := lane, attention := attention } := by
  unfold State.watched
  split
  · exact ⟨_, _, rfl⟩
  · exact ⟨_, _, rfl⟩

theorem watched_blockedSeen (s : State) (station card : Nat) (k : RequestKind) :
    (s.watched station card k).lane.blockedSeen = s.lane.blockedSeen := by
  unfold State.watched
  split <;> rfl

theorem exec_request_refused {s t : State} {k : RequestKind} {station card : Nat} {body : List Byte} {status : LaneStatus}
    (h : s.LaneAsked station k.code body) (hc : s.commonChecks k station body (k.owner station) = (t, .refuse card status))
    (hp : t.port = s.port) : exec (k.request station body) s = .next (t.laneAnswered station k.code card status []) := by
  rw [exec_request]
  exact congrArg _ (takeChecked_asked h hc hp)

theorem read_none {k : RequestKind} {body : List Byte}
    (h : body.length ≠ (if k = .bal ∨ k = .drop then 4 else 7) ∨ noCard (field body 0 4) ∨
      (k = .hold ∨ k = .settle ∨ k = .sale) ∧ 99999 < field body 4 3) : k.read body = none := by
  have hlen : (if k = .bal ∨ k = .drop then 4 else 7) = k.bodyLength := by cases k <;> rfl
  rw [hlen] at h
  refine bodyOf_none (h.imp_right fun h => Bool.and_eq_false_iff.2 (h.imp cardInRange_false.2 fun ⟨hk, hg⟩ => ?_))
  rcases hk with rfl | rfl | rfl <;> exact decide_eq_false (not_le.2 hg)

theorem allowed_iff {k : RequestKind} {kind : StationKind} (h : kind ≠ .none) :
    k.allowed kind = true ↔ ¬ (k ≠ .bal ∧ kind ≠ (if k = .cash then .kiosk else .till)) := by
  cases k <;> cases kind <;> simp_all [RequestKind.allowed]

theorem engineRefusal_eq (k : RequestKind) (e : EngineState) : k.engineRefusal e =
    if e = .unset then some .notReady else if e = .frozen ∧ k ≠ .bal ∧ k ≠ .drop then some .frozen else none := by
  cases e <;> cases k <;> rfl

/-- The refusals of steps 3 to 6, after the watch entries have been matched. -/
theorem commonChecks_refused {s : State} {k : RequestKind} {station card amount : Nat} {body : List Byte}
    {owner : Purse → Nat → State → State × LaneAnswer} (hr : k.read body = some (card, amount)) :
    (k.allowed (s.station station).kind = false →
      s.commonChecks k station body owner = (s.watched station card k, .refuse card .wrongStation)) ∧
    (k.allowed (s.station station).kind = true →
      (∀ st, k.engineRefusal s.engine.state = some st →
        s.commonChecks k station body owner = (s.watched station card k, .refuse card st)) ∧
      (k.engineRefusal s.engine.state = none →
        (s.purse? card = none → s.commonChecks k station body owner = (s.watched station card k, .refuse card .unknownCard)) ∧
        (∀ p, s.purse? card = some p → p.state = .blocked →
          s.commonChecks k station body owner = ((s.watched station card k).seeBlocked station card, .refuse card .blocked)))) := by
  obtain ⟨lane, attention, hw⟩ := watched_writes s station card k
  simp only [State.commonChecks, hr, matchWatch_eq]
  have hst : (s.watched station card k).station station = s.station station := by rw [hw]; rfl
  have hen : (s.watched station card k).engine = s.engine := by rw [hw]
  have hpu : (s.watched station card k).purse? card = s.purse? card := by rw [hw]; rfl
  rw [hst, hen, hpu]
  refine ⟨fun h => if_pos h, fun h => ?_⟩
  rw [if_neg (by rw [h]; exact Bool.noConfusion)]
  refine ⟨fun st he => by rw [he], fun he => ?_⟩
  rw [he]
  refine ⟨fun hp => by rw [hp], fun p hp hb => ?_⟩
  rw [hp]
  exact if_pos hb

/-- Settles O36 (R87 to R90, R102). -/
theorem commonChecksRefuse : Obligations.CommonChecksRefuse := by
  refine fun s k station => ⟨fun body ha hbad => ?_, fun card amount ha h1 h2 h3 h4 => ?_⟩
  · exact exec_request_refused ha (by simp only [State.commonChecks, read_none hbad]) rfl
  obtain ⟨a, hr, -⟩ := read_fields k h1 h2 h3 h4
  obtain ⟨hstation, hlater⟩ := commonChecks_refused (s := s) (station := station) (owner := k.owner station) hr
  have hport := watched_port s station card k
  dsimp only
  by_cases hwrong : k ≠ .bal ∧ (s.station station).kind ≠ (if k = .cash then .kiosk else .till)
  · rw [if_pos hwrong]
    refine exec_request_refused ha (hstation ?_) hport
    rw [← Bool.not_eq_true, allowed_iff ha.2.2.2]
    exact not_not.2 hwrong
  obtain ⟨hengine, hcard⟩ := hlater ((allowed_iff ha.2.2.2).2 hwrong)
  rw [if_neg hwrong]
  by_cases hunset : s.engine.state = .unset
  · rw [if_pos hunset]
    exact exec_request_refused ha (hengine _ (by rw [engineRefusal_eq, if_pos hunset])) hport
  rw [if_neg hunset]
  by_cases hfrozen : s.engine.state = .frozen ∧ k ≠ .bal ∧ k ≠ .drop
  · rw [if_pos hfrozen]
    exact exec_request_refused ha (hengine _ (by rw [engineRefusal_eq, if_neg hunset, if_pos hfrozen])) hport
  obtain ⟨hunknown, hblocked⟩ := hcard (by rw [engineRefusal_eq, if_neg hunset, if_neg hfrozen])
  rw [if_neg hfrozen]
  split
  next hnone => exact exec_request_refused ha (hunknown hnone) hport
  next =>
    intro p hp hb
    refine (exec_request_refused ha (hblocked p hp hb) hport).trans ?_
    rw [← watched_time s station card k, ← watched_blockedSeen s station card k]
    rfl

/-! ## Requests that reach step 7 -/

/-- An admitted request is answered by its owning block, from the state the watch entries leave (R90). -/
theorem exec_admitted {s : State} {k : RequestKind} {station card amount a : Nat} {p : Purse}
    (ha : s.LaneAsked station k.code (k.fields card amount)) (hr : k.read (k.fields card amount) = some (card, a))
    (he : k.engineRefusal s.engine.state = none) (hp : s.purse? card = some p) (hact : p.state = .active)
    (hk : k.allowed (s.station station).kind = true) {t : State} {an : LaneAnswer}
    (ho : k.owner station p a (s.watched station card k) = (t, an)) (ht : t.port = s.port) :
    exec (k.request station (k.fields card amount)) s = .next (t.laneAnswered station k.code an.card an.status an.body) := by
  rw [exec_request]
  exact congrArg _ (takeChecked_admitted s k station card amount a p ha hr he hp hact hk _ t an ho ht)

/-- Settles O37 (R93). -/
theorem balResult : Obligations.BalResult := by
  intro s station card p ha h1 h2 he hp hact
  obtain rfl := purse?_card hp
  have hk : RequestKind.bal.allowed (s.station station).kind = true := (allowed_iff ha.2.2.2).2 fun h => h.1 rfl
  refine (exec_admitted (k := .bal) (amount := 0) ha (read_bal_spelled h1 h2) ?_ hp hact hk rfl (watched_port _ _ _ _)).trans ?_
  · rw [engineRefusal_eq, if_neg he, if_neg fun h => h.2.1 rfl]
  have hbody : (s.watched station p.card .bal).balBody p = s.balBody p := by
    obtain ⟨lane, attention, hw⟩ := watched_writes s station p.card .bal
    rw [hw]
    rfl
  refine congrArg (fun b => Host.Outcome.next ((s.watched station p.card .bal).laneAnswered station 1 p.card .ok b))
    (hbody.trans ?_)
  simp only [State.balBody, State.subsidyRoomNow, eligibleWindow_eq, boolByte_eq, decide_eq_true_eq]
  cases s.subsidyWindow p with
  | none => rfl
  | some w => rfl

/-! ## HOLD -/

/-- The opening of a hold, with its answer (R70). -/
theorem openHold_fields (s : State) {station : Nat} (h : station ≠ 0) (card g : Nat) : s.openHold station card g = { s with
    purses := { s.purses with purses := s.purses.purses.map (fun q : Purse =>
      if q.card = card then { q with holdStation := some station } else q) }
    holds := { s.holds with
      holds := s.holds.holds ++ [({ card := card, station := station, granted := g,
                                    remaining := (s.station station).lifetime } : Hold)]
      lastExpired := if s.lastExpired station = some card then s.holds.lastExpired.setIfInBounds (station - 1) none
        else s.holds.lastExpired } } := by
  rw [← stationSlot_eq h]
  by_cases he : s.lastExpired station = some card
  · rw [if_pos he]
    exact if_pos he
  · rw [if_neg he]
    exact if_neg he

/-- Settles O38 (R57, R58, R68 to R73). -/
theorem holdResult : Obligations.HoldResult := by
  rintro s station card asked p ⟨ha, h1, h2, he, hp, hact⟩ h3 hk
  obtain rfl := purse?_card hp
  have hb := (station_bounds ha.2.2.2).1
  have hread : RequestKind.hold.read (leBytes 4 p.card ++ leBytes 3 asked) = some (p.card, asked) :=
    read_amount_spelled rfl h1 h2 (by omega) (decide_eq_true h3)
  have hall : RequestKind.hold.allowed (s.station station).kind = true := by rw [hk]; rfl
  have hexec : ∀ {t : State} {an : LaneAnswer}, holdOwner station p asked (s.watched station p.card .hold) = (t, an) →
      t.port = s.port → exec (.hold station (leBytes 4 p.card ++ leBytes 3 asked)) s =
        .next (t.laneAnswered station 2 an.card an.status an.body) :=
    fun {t an} ho ht => exec_admitted (k := .hold) ha hread (by rw [he]; rfl) hp hact hall (t := t) (an := an) ho ht
  obtain ⟨lane, attention, hw⟩ := watched_writes s station p.card .hold
  rw [hw] at hexec
  rw [hw]
  generalize hu : ({ s with lane := lane, attention := attention } : State) = u at hexec ⊢
  have hport : u.port = s.port := by rw [← hu]
  have hgrant : u.grantedAmount p asked = s.grantedAmount p asked := by rw [← hu]; rfl
  have hstation : u.station station = s.station station := by rw [← hu]; rfl
  have hqueue : u.queue station = s.queue station := by rw [← hu]; rfl
  have hpool : u.poolCount = s.holds.holds.length := by rw [← hu]; rfl
  have hanswer : ∀ g position, u.holdAnswer p asked g position = {
      card := p.card, status := if g = asked then .ok else .shortOk,
      body := leBytes 4 g ++ leBytes 1 position ++ leBytesInt 4 (p.balance - s.purses.classes[p.cls].floor - g) } := by
    rw [← hu]
    exact fun _ _ => rfl
  have hlast : u.lastExpired station = s.lastExpired station := by rw [← hu]; rfl
  dsimp only
  split
  next hnone =>
    have hown : holdOwner station p asked u = u.newHold p station asked := by rw [holdOwner, hnone]
    rw [State.newHold, hstation, hqueue, hpool, hgrant, grantedAmount_eq] at hown
    by_cases hquota : (s.station station).quota ≤ (s.queue station).length
    · rw [if_pos hquota]
      exact hexec (hown.trans (if_pos hquota)) hport
    rw [if_neg hquota] at hown ⊢
    by_cases hfull : 64 ≤ s.holds.holds.length
    · rw [if_pos hfull]
      exact hexec (hown.trans (if_pos hfull)) hport
    rw [if_neg hfull]
    have hroom := hown.trans (if_neg hfull)
    split
    next status hs =>
      rw [hs] at hroom
      exact hexec hroom hport
    next hs =>
      rw [hs] at hroom
      dsimp only at hroom
      rw [openHold_fields u (by omega), hanswer, hlast, hstation] at hroom
      exact hexec hroom hport
  next other hsome =>
    have hown : holdOwner station p asked u = if other = station then u.refresh p station asked else (u, .refuse p.card .inUse) := by
      rw [holdOwner, hsome]
    by_cases hother : other = station
    · rw [if_neg (not_not.2 hother)]
      rw [if_pos hother, State.refresh, hgrant, grantedAmount_eq] at hown
      split
      next status hs =>
        rw [hs] at hown
        exact hexec hown hport
      next hs =>
        rw [hs] at hown
        dsimp only at hown
        rw [hanswer, State.holdPosition, hqueue, State.refreshHold, hstation] at hown
        exact hexec hown hport
    · rw [if_pos hother]
      exact hexec (hown.trans (if_neg hother)) hport

/-! ## SETTLE and SALE -/

/-- A charge by a till, from the state the watch entries leave: its verdict is that of the state before (R43 to R54). -/
theorem charge_watched {s : State} {p : Purse} {station gross kept : Nat} (k : RequestKind) (hs : s.PursesSound)
    (hp : s.purse? p.card = some p) : (s.watched station p.card k).charge p station gross kept =
      match s.chargeVerdict p gross kept with
      | some st => (some st, s.watched station p.card k, .refuse p.card st)
      | none => (none, (s.watched station p.card k).charged station p gross,
          { card := p.card, status := .ok, body := s.chargeBody p gross }) := by
  obtain ⟨hverdict, hbody, -, hsound, hpurse⟩ := watched_charge s station p.card k p gross kept
  simp only [State.charge, chargeRefusal_eq, hverdict]
  cases s.chargeVerdict p gross kept with
  | some st => rfl
  | none =>
    dsimp only
    rw [applyCharge_eq _ p gross station (hsound.2 hs) (hpurse.trans hp), ← hbody, State.chargeBody, chargeOf_eq]
    rfl

theorem settleOwner_refused {s t : State} {p : Purse} {station gross : Nat} {h : Hold} {st : LaneStatus} {a : LaneAnswer}
    (hh : s.hold? p.card station = some h) (hc : s.charge p station gross 0 = (some st, t, a)) :
    settleOwner station p gross s = (t, a) := by
  simp only [settleOwner, hh, hc]

theorem settleOwner_applied {s t : State} {p : Purse} {station gross : Nat} {h : Hold} {a : LaneAnswer}
    (hh : s.hold? p.card station = some h) (hc : s.charge p station gross 0 = (none, t, a)) :
    settleOwner station p gross s = (t.withoutHold station p.card, a) := by
  simp only [settleOwner, hh, hc, removeHold_eq]

/-- Settles O39 (R43 to R54, R74, R81). -/
theorem settleAndSaleResult : Obligations.SettleAndSaleResult := by
  intro s station card gross p h3 hk hs
  have hread : ∀ k : RequestKind, k.bodyLength = 7 → k.amountGood gross = true → 1 ≤ card → card ≤ 99999999 →
      k.read (leBytes 4 card ++ leBytes 3 gross) = some (card, gross) :=
    fun k hlen hgood h1 h2 => read_amount_spelled hlen h1 h2 (by omega) hgood
  constructor
  · rintro ⟨ha, h1, h2, he, hp, hact⟩ ⟨h, hmem, hh⟩
    obtain rfl := purse?_card hp
    have hall : RequestKind.settle.allowed (s.station station).kind = true := by rw [hk]; rfl
    obtain ⟨g, hg⟩ : ∃ g, (s.watched station p.card .settle).hold? p.card station = some g := by
      rw [← Option.isSome_iff_exists, State.hold?, watched_holds, List.find?_isSome]
      exact ⟨h, hmem, by simpa using hh⟩
    have hcharge := charge_watched (station := station) (gross := gross) (kept := 0) .settle hs hp
    have hexec := fun {t : State} {an : LaneAnswer} ho ht => exec_admitted (k := .settle) ha
      (hread .settle rfl (decide_eq_true h3) h1 h2) (by rw [he]; rfl) hp hact hall (t := t) (an := an) ho ht
    dsimp only
    split
    next status hv =>
      rw [hv] at hcharge
      exact hexec (settleOwner_refused hg hcharge) (watched_port s station p.card .settle)
    next hv =>
      rw [hv] at hcharge
      exact hexec (settleOwner_applied hg hcharge) (watched_port s station p.card .settle)
  · rintro ⟨ha, h1, h2, he, hp, hact⟩
    obtain rfl := purse?_card hp
    have hall : RequestKind.sale.allowed (s.station station).kind = true := by rw [hk]; rfl
    have hkept : (s.watched station p.card .sale).keptForOther p station =
        if p.holdStation = some station then 0 else s.heldAmount p := by
      rw [State.keptForOther, (watched_charge s station p.card .sale p gross 0).2.2.1]
    have hcharge := charge_watched (station := station) (gross := gross)
      (kept := if p.holdStation = some station then 0 else s.heldAmount p) .sale hs hp
    rw [← hkept] at hcharge
    have hown : saleOwner station p gross (s.watched station p.card .sale) = _ := congrArg Prod.snd hcharge
    rw [hkept] at hown
    have hexec := fun {t : State} {an : LaneAnswer} ho ht => exec_admitted (k := .sale) ha
      (hread .sale rfl (decide_eq_true h3) h1 h2) (by rw [he]; rfl) hp hact hall (t := t) (an := an) ho ht
    dsimp only
    split
    next status hv =>
      rw [hv] at hown
      exact hexec hown (watched_port _ _ _ _)
    next hv =>
      rw [hv] at hown
      exact hexec hown (watched_port s station p.card .sale)

/-! ## DROP, and a SETTLE without a hold -/

theorem dropOwner_held {s : State} {p : Purse} {station amount : Nat} {h : Hold} (hh : s.hold? p.card station = some h) :
    dropOwner station p amount s = (s.withoutHold station p.card, { card := p.card, status := .ok, body := leBytes 3 h.granted }) := by
  simp only [dropOwner, hh, removeHold_eq]

theorem dropOwner_none {s : State} {p : Purse} {station amount : Nat} (hh : s.hold? p.card station = none) :
    dropOwner station p amount s = (s, .refuse p.card .noHold) := by
  simp only [dropOwner, hh]

theorem settleOwner_none {s : State} {p : Purse} {station gross : Nat} (hh : s.hold? p.card station = none) :
    settleOwner station p gross s = if s.lastExpired station = some p.card then
      (s.setLastExpired station none, .refuse p.card .holdExpired) else (s, .refuse p.card .noHold) := by
  simp only [settleOwner, hh, State.settleWithoutHold]

/-- Settles O40 (R74 to R76). -/
theorem dropAndMissingHold : Obligations.DropAndMissingHold := by
  intro s station card gross p hpow hk h1 h2 h3 hp hact
  obtain rfl := purse?_card hp
  have hhold : ∀ k, (s.watched station p.card k).hold? p.card station = s.hold? p.card station := fun k => by
    rw [State.hold?, State.hold?, watched_holds]
  refine ⟨fun ha he => ?_, fun ha he hnone => ?_⟩
  · have hall : RequestKind.drop.allowed (s.station station).kind = true := by rw [hk]; rfl
    have hexec := fun {t : State} {an : LaneAnswer} ho ht => exec_admitted (k := .drop) (amount := 0) ha
      (read_drop_spelled h1 h2) (by rw [engineRefusal_eq, if_neg he, if_neg fun h => h.2.2 rfl]) hp hact hall (t := t)
      (an := an) ho ht
    refine ⟨fun h hh => ?_, fun hnone => ?_⟩
    · exact hexec (dropOwner_held (amount := 0) ((hhold .drop).trans hh)) (watched_port s station p.card .drop)
    · exact hexec (dropOwner_none (amount := 0) ((hhold .drop).trans (hold?_none s p.card station hnone)))
        (watched_port s station p.card .drop)
  · have hall : RequestKind.settle.allowed (s.station station).kind = true := by rw [hk]; rfl
    have hexec := fun {t : State} {an : LaneAnswer} ho ht => exec_admitted (k := .settle) ha
      (read_amount_spelled rfl h1 h2 (by omega) (decide_eq_true h3)) (by rw [he]; rfl) hp hact hall (t := t) (an := an) ho ht
    have hlast : (s.watched station p.card .settle).lastExpired station = s.lastExpired station := by
      rw [State.lastExpired, State.lastExpired, watched_holds]
    have hb := (station_bounds ha.2.2.2).1
    have hown := settleOwner_none (gross := gross) ((hhold .settle).trans (hold?_none s p.card station hnone))
    rw [hlast, State.setLastExpired, stationSlot_eq (by omega)] at hown
    dsimp only
    split
    next hl => exact hexec (hown.trans (if_pos hl)) (watched_port s station p.card .settle)
    next hl => exact hexec (hown.trans (if_neg hl)) (watched_port s station p.card .settle)

/-! ## CASH -/

theorem cashOwner_credited {s : State} {p : Purse} {station amount : Nat} (h1 : ¬ (amount = 0 ∨ Config.maxCash < amount))
    (h2 : ¬ s.overdueFlag = true) (h3 : ¬ 999999 < p.balance + amount) (h4 : ¬ s.generalRoom = false) :
    cashOwner station p amount s = (s.credited p.card amount station (.cash p.card amount (p.balance + amount)),
      { card := p.card, status := .ok,
        body := leBytes 3 amount ++ leBytesInt 4 (p.balance + amount) ++ leBytes 4 s.journal.nextSeq }) := by
  rw [cashOwner, if_neg h1, if_neg h2, if_neg (show ¬ Config.maxBalance < p.balance + amount from h3), if_neg h4, credited_eq]

/-- Settles O41 (R106 to R108). -/
theorem cashResult : Obligations.CashResult := by
  rintro s station card amount p ⟨ha, h1, h2, he, hp, hact⟩ h3 hk
  obtain rfl := purse?_card hp
  have hall : RequestKind.cash.allowed (s.station station).kind = true := by rw [hk]; rfl
  have hport := watched_port s station p.card .cash
  have hjournal := watched_journal s station p.card .cash
  have hexec := fun {t : State} {an : LaneAnswer} ho ht => exec_admitted (k := .cash) ha
    (read_amount_spelled rfl h1 h2 h3 rfl) (by rw [he]; rfl) hp hact hall (t := t) (an := an) ho ht
  have hover : (s.watched station p.card .cash).overdueFlag = true ↔ s.journal.timer = 0 := by
    rw [State.overdueFlag, hjournal, overdue_true]
  have hroom : (s.watched station p.card .cash).generalRoom = false ↔ 1920 ≤ s.journal.records.length := by
    rw [generalRoom_false, hjournal]
  have hrange : (amount = 0 ∨ Config.maxCash < amount) ↔ (amount < 1 ∨ 50000 < amount) := by
    rw [Nat.lt_one_iff]
  dsimp only
  split_ifs with hc1 hc2 hc3 hc4
  · exact hexec (if_pos (hrange.2 hc1)) hport
  · exact hexec ((if_neg (mt hrange.1 hc1)).trans (if_pos (hover.2 hc2))) hport
  · exact hexec ((if_neg (mt hrange.1 hc1)).trans ((if_neg (mt hover.1 hc2)).trans (if_pos hc3))) hport
  · exact hexec ((if_neg (mt hrange.1 hc1)).trans ((if_neg (mt hover.1 hc2)).trans ((if_neg hc3).trans
      (if_pos (hroom.2 hc4))))) hport
  · have hown := cashOwner_credited (s := s.watched station p.card .cash) (station := station) (mt hrange.1 hc1)
      (mt hover.1 hc2) hc3 (mt hroom.1 hc4)
    rw [hjournal] at hown
    exact hexec hown hport

/-! ## REPEAT, unknown kinds, and frames without a station -/

/-- The port waits on a frame that is dropped. -/
theorem takeBack_dropped {p : LanePort} {f : LaneFrame} (hh : p.handed = [f]) (hr : p.receiver = .turnaround .awaited) :
    p.takeBack f none = { p with handed := [], receiver := .turnaround .noReply } := by
  refine (if_pos (by rw [hh]; rfl)).trans ?_
  rw [hh, hr]
  rfl

/-- Settles O42 (R85, R88, R92, R97). -/
theorem repeatUnknownDropped : Obligations.RepeatUnknownDropped := by
  refine fun s station kind body hpow => ⟨fun ha => ?_, fun ha hkind => ?_, fun c hf hnone hr hh => ?_⟩
  · refine congrArg _ ((takeRequest_asked ha (serve := fun s => (s, some (s.repeatReply station))) rfl rfl).trans ?_)
    rw [State.repeatReply]
    cases s.lastReply station with
    | none => rfl
    | some q =>
      dsimp only
      rw [byte_eq, boolByte_eq]
      rfl
  · have hb := (station_bounds ha.2.2.2).1
    refine congrArg _ ((if_neg (by omega)).trans ((takeRequest_asked ha
      (serve := fun s0 => State.answerRequest station kind (s0, .refuse 0 .badRequest))
      (t := s.setLastReply station (some ((LaneAnswer.refuse 0 .badRequest).record kind))) rfl rfl).trans ?_))
    rw [State.setLastReply, stationSlot_eq (by omega)]
    rfl
  · obtain ⟨serve, -, hexec⟩ := exec_laneForm_taken hf
    have hserved : s.laneServed = true := by rw [State.laneServed, (supplied_iff s).2 hpow, hr]; rfl
    rw [hexec, State.takeRequest, if_pos hserved, if_pos hnone]
    dsimp only
    rw [takeBack_dropped hh hr]
    rfl

end Sys2Proof.Machine
end

/-! # The seconds tick: the clock, the blocks that take it, and rollover (O43, O44, O46, O47) -/

section
namespace Sys2Proof.Machine

/-! ## What a block's tick leaves alone -/

/-- The time unit and the supplies are as they were. -/
def State.SameClock (s t : State) : Prop := t.time = s.time ∧ t.supply = s.supply

theorem holdTick_sameClock (s : State) : s.SameClock s.holdTick := by
  unfold State.holdTick
  split
  · rw [expireHolds_eq, removeHolds_eq]
    exact ⟨rfl, rfl⟩
  · exact ⟨rfl, rfl⟩

theorem engineTick_sameClock (s : State) : s.SameClock s.engineTick := by
  unfold State.engineTick
  split
  · split <;> exact ⟨rfl, rfl⟩
  · exact ⟨rfl, rfl⟩

theorem journalTick_sameClock (s : State) : s.SameClock s.journalTick := by
  unfold State.journalTick
  split
  · rw [reportBegin_eq]
    exact ⟨rfl, rfl⟩
  · exact ⟨rfl, rfl⟩

/-- A block takes the tick due to it, by its own command (assumption 6). -/
theorem tickTakenBy_supplied {s : State} (hs : s.supplied = true) (b : Bool) {x : TickTaker} (hx : b = false ∨ x ≠ .rollover) :
    takeTick (s, b) x = (s.tickTakenBy x, b) := by
  cases x with
  | holdUnit => exact congrArg (·, b) (if_pos hs).symm
  | engineControl => exact congrArg (·, b) (if_pos hs).symm
  | journal => exact congrArg (·, b) (if_pos hs).symm
  | rollover =>
    obtain rfl := hx.resolve_right (· rfl)
    rfl

theorem tickTakenBy_sameClock (s : State) (x : TickTaker) : s.SameClock (s.tickTakenBy x) := by
  have hkeep : ∀ t : State, s.SameClock t → s.SameClock (if s.supplied then t else s) := fun t ht => by
    split
    · exact ht
    · exact ⟨rfl, rfl⟩
  cases x with
  | holdUnit =>
    refine hkeep _ ?_
    unfold State.takeHoldTick
    split
    · exact holdTick_sameClock (s.setTicks { s.ticks with hold := false })
    · exact ⟨rfl, rfl⟩
  | engineControl =>
    refine hkeep _ ?_
    unfold State.takeEngineTick
    split
    · exact engineTick_sameClock (s.setTicks { s.ticks with engine := false })
    · exact ⟨rfl, rfl⟩
  | journal =>
    refine hkeep _ ?_
    unfold State.takeJournalTick
    split
    · exact journalTick_sameClock (s.setTicks { s.ticks with journal := false })
    · exact ⟨rfl, rfl⟩
  | rollover => exact ⟨rfl, rfl⟩

theorem ticksTakenBy_sameClock (order : List TickTaker) (s : State) : s.SameClock (s.ticksTakenBy order) := by
  induction order generalizing s with
  | nil => exact ⟨rfl, rfl⟩
  | cons x order ih =>
    obtain ⟨htime, hsupply⟩ := tickTakenBy_sameClock s x
    obtain ⟨htime', hsupply'⟩ := ih (s.tickTakenBy x)
    exact ⟨htime'.trans htime, hsupply'.trans hsupply⟩

theorem supplied_of_sameClock {s t : State} (h : s.SameClock t) (hs : s.supplied = true) : t.supplied = true := by
  rw [State.supplied, h.2]
  exact hs

/-- The blocks take the tick in the order named, when no rollover is to come or none is named. -/
theorem foldl_takeTick {s : State} (hs : s.supplied = true) (b : Bool) {order : List TickTaker}
    (h : b = false ∨ .rollover ∉ order) : order.foldl takeTick (s, b) = (s.ticksTakenBy order, b) := by
  induction order generalizing s with
  | nil => rfl
  | cons x order ih =>
    have hx : b = false ∨ x ≠ .rollover := h.imp_right fun hn he => hn (he ▸ List.mem_cons_self)
    rw [List.foldl_cons, tickTakenBy_supplied hs b hx]
    exact ih (supplied_of_sameClock (tickTakenBy_sameClock s x) hs) (h.imp_right fun hn hm => hn (List.mem_cons_of_mem x hm))

/-! ## Rollover -/

theorem markAtRollover_eq (s : State) (endedDay : Nat) :
    s.markAtRollover endedDay = if s.engine.state = .unset then s else s.dayMarked endedDay := by
  rw [State.markAtRollover, writeDayMark_eq]

theorem dayMarked_keeps (s : State) (lastDay : Nat) :
    (s.dayMarked lastDay).engine = s.engine ∧ s.SameClock (s.dayMarked lastDay) := by
  unfold State.dayMarked
  split <;> exact ⟨rfl, rfl, rfl⟩

theorem markAtRollover_keeps (s : State) (endedDay : Nat) :
    (s.markAtRollover endedDay).engine = s.engine ∧ s.SameClock (s.markAtRollover endedDay) := by
  rw [markAtRollover_eq]
  split
  · exact ⟨rfl, rfl, rfl⟩
  · exact dayMarked_keeps s endedDay

/-- A rollover advances the day, and leaves the rest of the time unit and the supplies. -/
theorem rollover_clock (s : State) :
    s.rollover.time = { s.time with day := nextDay s.time.day } ∧ s.rollover.supply = s.supply := by
  obtain ⟨-, htime, hsupply⟩ := markAtRollover_keeps s.advanceDay s.time.day
  have hfreeze : ∀ t : State, t.SameClock t.freezeAtRollover := fun t => by
    unfold State.freezeAtRollover
    split <;> exact ⟨rfl, rfl⟩
  obtain ⟨htime', hsupply'⟩ := hfreeze ((s.advanceDay.markAtRollover s.time.day).raiseCause .rollover)
  exact ⟨htime'.trans htime, hsupply'.trans hsupply⟩

/-- The freeze at rollover says its whole effect (R31, R150). -/
theorem freezeAtRollover_eq (s : State) : s.freezeAtRollover =
    if s.engine.state = .running ∧ s.time.rolloverFreeze = true then
      { s with
        engine := { s.engine with
          state := .frozen, reason := some .rollover, timer := s.engine.limit * 60,
          changeCount := counted 255 s.engine.changeCount,
          change := some { change := .entry, reason := .rollover, day := s.time.day, minute := s.time.minute } }
        attention := { s.attention with pending := { s.attention.pending with freezeChange := true } } }
    else s := rfl

/-- A rollover says its whole effect (R30, R31, R128, R150). -/
theorem rollover_eq {s : State} (h : s.time.day ≤ 65535) : s.rollover = s.rolledOver := by
  have hday : s.advanceDay = { s with time := { s.time with day := if s.time.day = 65535 then 0 else s.time.day + 1 } } := by
    rw [State.advanceDay, nextDay_eq s.time.day h]
    rfl
  obtain ⟨hengine, htime, -⟩ := markAtRollover_keeps s.advanceDay s.time.day
  rw [State.rollover, freezeAtRollover_eq]
  rw [hday] at hengine htime ⊢
  rw [markAtRollover_eq] at hengine htime ⊢
  rw [State.rolledOver]
  dsimp only at hengine htime ⊢
  generalize (if s.engine.state = .unset then _ else _ : State) = m at hengine htime ⊢
  cases m
  cases hengine
  cases htime
  rfl

/-! ## The seconds tick -/

/-- The ticks still due taken, the clock one second on, and the ticks issued (R26; assumption 6). -/
def State.ticked (s : State) : State := (s.ticksTakenBy [.holdUnit, .engineControl, .journal]).issueTicks

theorem tickSupplied_eq {s : State} (hs : s.supplied = true) (order : List TickTaker) : s.tickSupplied order =
    if (order.foldl takeTick (s.ticked, s.time.rolloverNext)).2 then
      (order.foldl takeTick (s.ticked, s.time.rolloverNext)).1.rollover
    else (order.foldl takeTick (s.ticked, s.time.rolloverNext)).1 := by
  have hdue : s.takeDueTicks = s.ticksTakenBy [.holdUnit, .engineControl, .journal] :=
    congrArg Prod.fst (foldl_takeTick (order := [.holdUnit, .engineControl, .journal]) hs false (.inl rfl))
  rw [State.tickSupplied, hdue, (ticksTakenBy_sameClock _ s).1, State.ticked]

theorem secondsTick_supplied {s : State} (hs : s.supplied = true) (order : List TickTaker) :
    exec (.secondsTick order) s = .next (s.tickSupplied order) :=
  congrArg _ (if_pos hs)

theorem ticked_supplied {s : State} (hs : s.supplied = true) : s.ticked.supplied = true := by
  have hdue := supplied_of_sameClock (ticksTakenBy_sameClock [.holdUnit, .engineControl, .journal] s) hs
  exact hdue

theorem ticked_time (s : State) : s.ticked.time = s.time.advance :=
  congrArg TimeUnit.advance (ticksTakenBy_sameClock _ s).1

/-- A tick without a rollover is taken by the blocks named. -/
theorem secondsTick_plain {s : State} (hs : s.supplied = true) (hn : ¬ s.RolloverNext) (order : List TickTaker) :
    exec (.secondsTick order) s = .next (s.ticked.ticksTakenBy order) := by
  have hflag : s.time.rolloverNext = false := eq_false_of_ne_true (mt (rolloverNext_iff s).1 hn)
  rw [secondsTick_supplied hs, tickSupplied_eq hs, hflag, foldl_takeTick (ticked_supplied hs) false (.inl rfl)]
  rfl

/-- A rollover that is not named comes last. -/
theorem secondsTick_last {s : State} (hs : s.supplied = true) (hr : s.RolloverNext) {order : List TickTaker}
    (hn : .rollover ∉ order) : exec (.secondsTick order) s = .next (s.ticked.ticksTakenBy order).rollover := by
  rw [secondsTick_supplied hs, tickSupplied_eq hs, (rolloverNext_iff s).2 hr, foldl_takeTick (ticked_supplied hs) true (.inr hn)]
  rfl

/-- A rollover that is named comes at its place. -/
theorem secondsTick_at {s : State} (hs : s.supplied = true) (hr : s.RolloverNext) {before : List TickTaker}
    (hn : .rollover ∉ before) (after : List TickTaker) : exec (.secondsTick (before ++ .rollover :: after)) s =
      .next ((s.ticked.ticksTakenBy before).rollover.ticksTakenBy after) := by
  have hsup : (s.ticked.ticksTakenBy before).rollover.supplied = true := by
    rw [State.supplied, (rollover_clock _).2]
    exact supplied_of_sameClock (ticksTakenBy_sameClock before _) (ticked_supplied hs)
  have hfold : (before ++ .rollover :: after).foldl takeTick (s.ticked, true) =
      ((s.ticked.ticksTakenBy before).rollover.ticksTakenBy after, false) := by
    rw [List.foldl_append, foldl_takeTick (ticked_supplied hs) true (.inr hn)]
    exact foldl_takeTick hsup false (.inl rfl)
  rw [secondsTick_supplied hs, tickSupplied_eq hs, (rolloverNext_iff s).2 hr, hfold]
  rfl

theorem ticked_eq {s : State} (h : s.time.second ≤ 59) : s.ticked =
    { s.ticksTakenBy [.holdUnit, .engineControl, .journal] with
      time := { s.time with
        second := if s.time.second = 59 then 0 else s.time.second + 1
        minute := if s.time.second = 59 then (if s.time.minute < 1439 then s.time.minute + 1 else 0) else s.time.minute }
      ticks := { hold := true, engine := true, journal := decide (s.time.second = 59) } } := by
  have hminute : s.time.minuteTickNext = decide (s.time.second = 59) := decide_eq_decide.2 (by omega)
  rw [State.ticked, State.issueTicks, (ticksTakenBy_sameClock _ s).1, advance_eq s.time h, hminute]
  rfl

/-- Settles O47 (R26, R30, R31, R128, R150). -/
theorem rolloverResult : Obligations.RolloverResult := by
  intro s before after hp hsec hday hn
  have hs : s.supplied = true := (supplied_iff s).2 hp
  have hover : (s.ticked.ticksTakenBy before).rollover = (s.ticked.ticksTakenBy before).rolledOver := by
    refine rollover_eq ?_
    rw [(ticksTakenBy_sameClock before _).1, ticked_eq hsec]
    exact hday
  dsimp only
  rw [← ticked_eq hsec, ← hover]
  exact ⟨fun h => secondsTick_plain hs h _, fun h => ⟨secondsTick_last hs h hn, secondsTick_at hs h hn after⟩⟩

/-! ## The order of the blocks -/

theorem ticksTakenBy_append (s : State) (order : List TickTaker) (x : TickTaker) :
    s.ticksTakenBy (order ++ [x]) = (s.ticksTakenBy order).tickTakenBy x :=
  List.foldl_append

theorem exec_tickCommand {x : TickTaker} {c : Instr} (h : tickCommand x = some c) (s : State) :
    exec c s = .next (s.tickTakenBy x) := by
  cases x with
  | holdUnit => cases h; rfl
  | engineControl => cases h; rfl
  | journal => cases h; rfl
  | rollover => cases h

/-- Settles O44 (assumption 6). -/
theorem tickTakenInOrder : Obligations.TickTakenInOrder := by
  refine ⟨fun s t order x c hp hx hroll ht => ?_, fun s order hn => ?_⟩
  · have hs : s.supplied = true := (supplied_iff s).2 hp
    rw [exec_tickCommand hx]
    by_cases hr : s.RolloverNext
    · obtain ⟨before, after, rfl, hn⟩ := List.eq_append_cons_of_mem (hroll.resolve_right (not_not.2 hr))
      rw [secondsTick_at hs hr hn] at ht
      cases ht
      rw [List.append_assoc, List.cons_append, secondsTick_at hs hr hn, ticksTakenBy_append]
    · rw [secondsTick_plain hs hr] at ht
      cases ht
      rw [secondsTick_plain hs hr, ticksTakenBy_append]
  · by_cases hs : s.supplied = true
    · by_cases hr : s.RolloverNext
      · rw [secondsTick_at hs hr hn, secondsTick_last hs hr hn]
        rfl
      · rw [secondsTick_plain hs hr, secondsTick_plain hs hr, ticksTakenBy_append]
        rfl
    · exact congrArg _ ((if_neg hs).trans (if_neg hs).symm)

/-! ## The clock -/

theorem advance_clock {t : TimeUnit} (hsec : t.second ≤ 59) (hmin : t.minute ≤ 1439) : t.advance = { t with
    second := if t.second = 59 then 0 else t.second + 1
    minute := if t.second = 59 then (if t.minute = 1439 then 0 else t.minute + 1) else t.minute } := by
  have hminute : (if t.minute < 1439 then t.minute + 1 else 0) = if t.minute = 1439 then 0 else t.minute + 1 := by
    split_ifs <;> omega
  rw [advance_eq t hsec, hminute]

/-- The time unit one second on, the day number included (R26, R30). -/
def State.clockNext (s : State) : TimeUnit :=
  if s.RolloverNext then { s.time.advance with day := nextDay s.time.advance.day } else s.time.advance

theorem clockNext_eq {s : State} (hsec : s.time.second ≤ 59) (hmin : s.time.minute ≤ 1439) (hday : s.time.day ≤ 65535) :
    s.clockNext = { s.time with
      second := if s.time.second = 59 then 0 else s.time.second + 1
      minute := if s.time.second = 59 then (if s.time.minute = 1439 then 0 else s.time.minute + 1) else s.time.minute
      day := if s.RolloverNext then (if s.time.day = 65535 then 0 else s.time.day + 1) else s.time.day } := by
  rw [State.clockNext, advance_clock hsec hmin]
  split
  · rw [nextDay_eq s.time.day hday]
  · rfl

theorem secondsTick_battery {s : State} (hs : ¬ s.supplied = true) (order : List TickTaker) :
    exec (.secondsTick order) s = .next { s with time := s.clockNext } := by
  refine congrArg _ ((if_neg hs).trans ?_)
  rw [State.tickOnBattery, State.clockNext]
  by_cases hr : s.RolloverNext
  · rw [(rolloverNext_iff s).2 hr, if_pos hr]
    rfl
  · rw [eq_false_of_ne_true (mt (rolloverNext_iff s).1 hr), if_neg hr]
    rfl

theorem secondsTick_time (s : State) (order : List TickTaker) : ∃ t, exec (.secondsTick order) s = .next t ∧ t.time = s.clockNext := by
  by_cases hs : s.supplied = true
  · by_cases hr : s.RolloverNext
    · rw [State.clockNext, if_pos hr]
      by_cases hm : .rollover ∈ order
      · obtain ⟨before, after, rfl, hn⟩ := List.eq_append_cons_of_mem hm
        refine ⟨_, secondsTick_at hs hr hn after, ?_⟩
        rw [(ticksTakenBy_sameClock after _).1, (rollover_clock _).1, (ticksTakenBy_sameClock before _).1, ticked_time]
      · refine ⟨_, secondsTick_last hs hr hm, ?_⟩
        rw [(rollover_clock _).1, (ticksTakenBy_sameClock order _).1, ticked_time]
    · refine ⟨_, secondsTick_plain hs hr order, ?_⟩
      rw [(ticksTakenBy_sameClock order _).1, ticked_time, State.clockNext, if_neg hr]
  · exact ⟨_, secondsTick_battery hs order, rfl⟩

/-- Settles O43 (R26, R29, R30, R33). -/
theorem tickAdvancesClock : Obligations.TickAdvancesClock := by
  intro s order hsec hmin hday
  dsimp only
  rw [← clockNext_eq hsec hmin hday]
  exact ⟨secondsTick_time s order, fun hp => secondsTick_battery (mt (supplied_iff s).1 hp) order⟩

/-! ## Engine control and the journal -/

/-- Settles O46 (R137, R138, R149). -/
theorem freezeLimitAndOverdue : Obligations.FreezeLimitAndOverdue := by
  intro s hp
  have hs : s.supplied = true := (supplied_iff s).2 hp
  refine ⟨fun hd => ?_, fun hd => ?_, fun hd => ?_, fun hd => ?_⟩
  · refine congrArg _ ((if_pos hs).trans ((if_pos hd).trans ?_))
    dsimp only
    split
    next hf => exact if_neg hf
    next hf => exact (if_pos (not_not.1 hf)).trans rfl
  · refine congrArg _ ((if_pos hs).trans ((if_pos hd).trans ?_))
    dsimp only
    rw [State.journalTick]
    split
    next hc =>
      rw [reportBegin_eq]
      simp only [decide_eq_true_eq]
      exact (if_pos (hc.imp_left (high_true s.journal).1)).symm
    next hc => exact (if_neg (mt (And.imp_left (high_true s.journal).2) hc)).symm
  · exact congrArg _ ((if_pos hs).trans (if_neg (by rw [hd]; exact Bool.noConfusion)))
  · exact congrArg _ ((if_pos hs).trans (if_neg (by rw [hd]; exact Bool.noConfusion)))

end Sys2Proof.Machine
end

/-! # Steps, the supplies and the starts (O1, O48 to O50) -/

section
namespace Sys2Proof.Machine

/-- Settles O1. -/
theorem stepTakesFrontCommand : Obligations.StepTakesFrontCommand := by
  refine ⟨fun s c rest => rfl, fun s h => ?_⟩
  rw [step, h]

/-! ## Warm starts -/

/-- The end of the reply period starts an accepted RESTART (R152). -/
theorem endReplyPeriod_restart {s : State} (h : s.office.restartPending = true) : s.endReplyPeriod = s.warmStarted .restart := by
  rw [State.endReplyPeriod, if_pos h, warmStart_eq]

/-- Settles O48 (R142, R143, R152). -/
theorem warmStarts : Obligations.WarmStarts := by
  refine fun s low r => ⟨fun hv hl => ⟨fun hlow => ?_, fun hlow => ?_⟩, fun hv hl => ?_, fun hv hr => ?_,
    fun hp hr => ⟨fun ht => ⟨?_, ?_⟩, fun ht => ⟨?_, ?_⟩⟩⟩
  · exact congrArg _ ((if_pos hl).trans ((if_pos hv).trans ((if_pos hlow).trans (warmStart_eq _ _))))
  · have hrelease : exec (.resetRelease low) s = .next _ :=
      congrArg Host.Outcome.next ((if_pos hl).trans ((if_pos hv).trans (if_neg (not_le.2 hlow))))
    rw [hrelease]
    split
    · exact .inr (congrArg _ (warmStart_eq _ _))
    · exact .inl rfl
  · exact congrArg _ ((if_pos hl).trans (if_neg (by rw [State.setSupply, hv]; exact Bool.noConfusion)))
  · exact congrArg _ ((if_neg (by rw [hv]; exact Bool.noConfusion)).trans ((if_pos hr).trans (warmStart_eq _ _)))
  · exact congrArg _ ((if_pos ⟨(supplied_iff s).2 hp, by rw [ht]; rfl⟩).trans (endReplyPeriod_restart hr))
  · exact congrArg _ ((if_pos ⟨(supplied_iff s).2 hp, by rw [OfficePort.replyPeriod, ht], hr⟩).trans (warmStart_eq _ _))
  · exact congrArg _ ((if_pos ⟨(supplied_iff s).2 hp, ht⟩).trans (endReplyPeriod_restart hr))
  · exact congrArg _ ((if_pos ⟨(supplied_iff s).2 hp, by rw [OfficePort.replyPeriod, ht], hr⟩).trans (warmStart_eq _ _))

/-! ## The supplies -/

theorem exec_unsupplied_office {c : Instr} {kind : Byte} {len : Nat} {body : List Byte} {s : State}
    (h : officeForm c = some (kind, len, body)) (hs : ¬ s.supplied = true) : exec c s = .next s := by
  rw [exec_officeForm h, takeCommand_deaf fun hh => hs ((supplied_iff s).2 hh.1)]

theorem exec_unsupplied_lane {c : Instr} {station : Nat} {kind : Byte} {body : List Byte} {s : State}
    (h : laneForm c = some (station, kind, body)) (hs : ¬ s.supplied = true) : exec c s = .next s := by
  obtain ⟨serve, -, hexec⟩ := exec_laneForm_taken h
  rw [hexec, State.takeRequest, if_neg fun hl : s.laneServed = true => hs (Bool.and_eq_true_iff.1 hl).1]

theorem officeReceives_supplied {s : State} (h : s.officeReceives = true) : s.supplied = true :=
  (supplied_iff s).2 ((officeReceives_iff s).1 h).1

/-- Without supply no command changes anything but those of the supplies, of RESETn and of the clock (R142). -/
theorem exec_unsupplied {c : Instr} {s : State} (hs : ¬ s.supplied = true) (htick : ∀ order, c ≠ .secondsTick order)
    (hrelease : ∀ low, c ≠ .resetRelease low) (hassert : c ≠ .resetAssert) (hloss : c ≠ .powerLoss)
    (hretention : c ≠ .retentionLoss) (hreturn : c ≠ .powerReturn) : exec c s = .next s := by
  rcases ho : officeForm c with _ | ⟨kind, len, body⟩
  · rcases hl : laneForm c with _ | ⟨station, kind, body⟩
    · cases c with
      | secondsTick order => exact absurd rfl (htick order)
      | resetRelease low => exact absurd rfl (hrelease low)
      | resetAssert => exact absurd rfl hassert
      | powerLoss => exact absurd rfl hloss
      | retentionLoss => exact absurd rfl hretention
      | powerReturn => exact absurd rfl hreturn
      | turnaroundEnd | replyPreempt | replyCollision | replyComplete | startBreakEnd | holdExpiry | freezeLimitExpiry
      | overdueBegin => exact congrArg _ (if_neg hs)
      | laneFrameStart | laneFrameEnd | parityRefusal | laneLengthAbandon | laneFrameTimeout | brokenWaitEnd | restartMarkEnd
      | breakRisingEdge | ratedBreakDetect | answeringBreakEnd | officeReplyEnd | restartWarmStart =>
        exact congrArg _ (if_neg fun h => hs h.1)
      | framingError | officeLengthAbandon | officeFrameEnd => exact congrArg _ (if_neg (mt officeReceives_supplied hs))
      | officeFrameStart | officeFrameTimeout => exact congrArg _ (if_neg fun h => hs (officeReceives_supplied h.1))
      | resyncEnd => exact congrArg _ (if_neg fun h => hs h.1)
      | unknownRequestKind station kind body =>
        have hk : ¬ (kind.toNat = 0 ∨ 7 < kind.toNat) := fun h => by simp [laneForm, h] at hl
        exact congrArg _ (if_pos (by omega))
      | bal | hold | settle | sale | drop | cash | repeatReply => cases hl
      | _ => cases ho
    · exact exec_unsupplied_lane hl hs
  · exact exec_unsupplied_office ho hs

/-- Settles O49 (R142, R143). -/
theorem supplyEventsAndColdStart : Obligations.SupplyEventsAndColdStart := by
  refine fun s => ⟨rfl, rfl, fun hv => congrArg _ (if_pos hv), fun hv => ?_, fun hv hr => ?_, fun hv => congrArg _ (if_pos hv),
    fun hl low => ?_, fun hp c => exec_unsupplied (mt (supplied_iff s).1 hp)⟩
  · exact congrArg _ (if_neg (by rw [hv]; exact Bool.noConfusion))
  · exact congrArg _ ((if_neg (by rw [hv]; exact Bool.noConfusion)).trans (if_neg (by rw [hr]; exact Bool.noConfusion)))
  · exact congrArg _ (if_neg (by rw [hl]; exact Bool.noConfusion))

/-! ## Reset -/

theorem eq_of_mem_replicate {α : Type} {n : Nat} {x y : α} (h : y ∈ (Vector.replicate n x).toList) : y = x := by
  rw [Vector.toList_replicate] at h
  exact List.eq_of_mem_replicate h

/-- Settles O50 (R24, R40, R84, R105, R122, R141, R143, R144, R165, R167, R180). -/
theorem resetValuesAndInvariants : Obligations.ResetValuesAndInvariants := by
  refine ⟨?_, ?_, ?_, ?_, ?_, ?_, ?_, ?_, ?_, ?_, ?_, reset_pursesSound, reset_holdsSound, reset_journalSound,
    reset_clockEngineSound, reset_attentionSound, creditCold_sound rfl, reset_portsSound⟩
  · exact ⟨rfl, rfl, rfl, rfl, rfl, rfl, fun c hc => eq_of_mem_replicate hc⟩
  · exact ⟨rfl, rfl, rfl, rfl, rfl, rfl, fun w hw => by rw [eq_of_mem_replicate hw]; rfl⟩
  · exact ⟨rfl, fun c hc => eq_of_mem_replicate hc, fun e he => eq_of_mem_replicate he⟩
  · exact ⟨rfl, rfl, rfl⟩
  · exact ⟨rfl, rfl, rfl, rfl, rfl, rfl⟩
  · exact ⟨fun r hr => eq_of_mem_replicate hr, fun w hw => eq_of_mem_replicate hw, rfl⟩
  · exact ⟨rfl, rfl, rfl, rfl, rfl, rfl⟩
  · exact ⟨rfl, rfl, rfl, rfl⟩
  · exact ⟨rfl, rfl, rfl, rfl, rfl, rfl, rfl⟩
  · exact ⟨fun c => by cases c <;> exact ⟨rfl, rfl, rfl⟩, rfl⟩
  · rfl

end Sys2Proof.Machine
end

/-! # What a lane request leaves alone (O59) -/

section
namespace Sys2Proof.Machine

/-- What a lane request of one station leaves as it was: the other stations' queues, last-expired cards and last-reply records,
the blocks that no request writes, and, unless the engine is RUNNING, the money and the journal (R64, R66, R87, R89, R95). -/
structure State.ApartFrom (station : Nat) (s t : State) : Prop where
  queues : ∀ other, other ≠ station → t.queue other = s.queue other
  expired : ∀ other, 1 ≤ other → other ≤ 14 → other ≠ station → t.lastExpired other = s.lastExpired other
  replies : ∀ other, 1 ≤ other → other ≤ 14 → other ≠ station → t.lastReply other = s.lastReply other
  tables : t.purses.classes = s.purses.classes ∧ t.time = s.time ∧ t.holds.stations = s.holds.stations
  engine : t.engine = s.engine
  blocks : t.credit = s.credit ∧ t.office = s.office ∧ t.supply = s.supply ∧ t.ticks = s.ticks
  money : s.engine.state ≠ .running → t.journal = s.journal ∧ t.purses.floatTotal = s.purses.floatTotal ∧
    ∀ card, t.balanceOf card = s.balanceOf card

namespace State.ApartFrom

theorem refl (station : Nat) (s : State) : s.ApartFrom station s :=
  ⟨fun _ _ => rfl, fun _ _ _ _ => rfl, fun _ _ _ _ => rfl, ⟨rfl, rfl, rfl⟩, rfl, ⟨rfl, rfl, rfl, rfl⟩,
    fun _ => ⟨rfl, rfl, fun _ => rfl⟩⟩

theorem trans {station : Nat} {s t u : State} (h : s.ApartFrom station t) (k : t.ApartFrom station u) : s.ApartFrom station u where
  queues other hne := (k.queues other hne).trans (h.queues other hne)
  expired other h1 h14 hne := (k.expired other h1 h14 hne).trans (h.expired other h1 h14 hne)
  replies other h1 h14 hne := (k.replies other h1 h14 hne).trans (h.replies other h1 h14 hne)
  tables := ⟨k.tables.1.trans h.tables.1, k.tables.2.1.trans h.tables.2.1, k.tables.2.2.trans h.tables.2.2⟩
  engine := k.engine.trans h.engine
  blocks := ⟨k.blocks.1.trans h.blocks.1, k.blocks.2.1.trans h.blocks.2.1, k.blocks.2.2.1.trans h.blocks.2.2.1,
    k.blocks.2.2.2.trans h.blocks.2.2.2⟩
  money hr := by
    obtain ⟨hj, hf, hb⟩ := h.money hr
    obtain ⟨hj', hf', hb'⟩ := k.money (h.engine ▸ hr)
    exact ⟨hj'.trans hj, hf'.trans hf, fun card => (hb' card).trans (hb card)⟩

end State.ApartFrom

/-! ## The operations of a lane request -/

theorem stationSlot_ne {station other : Nat} (h1 : 1 ≤ other) (h14 : other ≤ 14) (hne : other ≠ station) :
    stationSlot station ≠ stationSlot other := by
  unfold stationSlot
  split_ifs <;> omega

/-- Where only the lane bus port, the attention unit, and the lane request unit but for its last-reply records are written. -/
theorem apartFrom_writes (station : Nat) {s t : State} (hl : t.lane.lastReplies = s.lane.lastReplies)
    (hp : t.purses = s.purses ∧ t.journal = s.journal) (hh : t.holds = s.holds) (ht : t.time = s.time) (he : t.engine = s.engine)
    (hb : t.credit = s.credit ∧ t.office = s.office ∧ t.supply = s.supply ∧ t.ticks = s.ticks) : s.ApartFrom station t where
  queues other _ := by rw [State.queue, State.queue, hh]
  expired other _ _ _ := by rw [State.lastExpired, State.lastExpired, hh]
  replies other _ _ _ := by rw [State.lastReply, State.lastReply, hl]
  tables := ⟨by rw [hp.1], ht, by rw [hh]⟩
  engine := he
  blocks := hb
  money _ := ⟨hp.2, by rw [hp.1], fun card => by rw [balanceOf_eq, balanceOf_eq, State.purse?, State.purse?, hp.1]⟩

theorem setLastReply_apartFrom (station : Nat) (s : State) (r : Option LastReply) :
    s.ApartFrom station (s.setLastReply station r) where
  queues _ _ := rfl
  expired _ _ _ _ := rfl
  replies other h1 h14 hne := by
    rw [State.lastReply, State.lastReply, State.setLastReply, State.setLane]
    dsimp only
    rw [Vector.getElem?_setIfInBounds_ne (stationSlot_ne h1 h14 hne)]
  tables := ⟨rfl, rfl, rfl⟩
  engine := rfl
  blocks := ⟨rfl, rfl, rfl, rfl⟩
  money _ := ⟨rfl, rfl, fun _ => rfl⟩

/-- A write of the holds, which leaves the station table, the queues of the others, and the last-expired cards. -/
theorem setHolds_apartFrom (station : Nat) (s : State) {h : HoldUnit} (hs : h.stations = s.holds.stations)
    (hq : ∀ other, other ≠ station → h.holds.filter (fun g => g.station == other) = s.queue other)
    (hx : ∀ other, 1 ≤ other → other ≤ 14 → other ≠ station →
      h.lastExpired[stationSlot other]? = s.holds.lastExpired[stationSlot other]?) : s.ApartFrom station (s.setHolds h) where
  queues other hne := hq other hne
  expired other h1 h14 hne := congrArg (·.getD none) (hx other h1 h14 hne)
  replies _ _ _ _ := rfl
  tables := ⟨rfl, rfl, hs⟩
  engine := rfl
  blocks := ⟨rfl, rfl, rfl, rfl⟩
  money _ := ⟨rfl, rfl, fun _ => rfl⟩

theorem setLastExpired_apartFrom (station : Nat) (s : State) (card : Option Nat) :
    s.ApartFrom station (s.setLastExpired station card) :=
  setHolds_apartFrom station s rfl (fun _ _ => rfl) fun _ h1 h14 hne =>
    Vector.getElem?_setIfInBounds_ne (stationSlot_ne h1 h14 hne)

theorem setHoldStation_apartFrom (station : Nat) (s : State) (card : Nat) (st : Option Nat) :
    s.ApartFrom station (s.setHoldStation card st) where
  queues _ _ := rfl
  expired _ _ _ _ := rfl
  replies _ _ _ _ := rfl
  tables := ⟨rfl, rfl, rfl⟩
  engine := rfl
  blocks := ⟨rfl, rfl, rfl, rfl⟩
  money _ := ⟨rfl, rfl, (modifyPurse_quiet (f := fun p => { p with holdStation := st }) s card
    fun _ => ⟨rfl, rfl, rfl, rfl, rfl, rfl⟩).balanceOf⟩

theorem openHold_apartFrom (station : Nat) (s : State) (card g : Nat) : s.ApartFrom station (s.openHold station card g) := by
  have hwith : s.ApartFrom station (s.withHold station card g) := by
    refine .trans (setHolds_apartFrom station s ?_ ?_ ?_) (setHoldStation_apartFrom station (s.setHolds _) card (some station))
    · rfl
    · intro other hne
      rw [List.filter_append, State.queue, List.filter_cons_of_neg (by simpa using hne.symm), List.filter_nil, List.append_nil]
    · exact fun _ _ _ _ => rfl
  rw [openHold_eq]
  split
  · exact hwith.trans (setLastExpired_apartFrom station _ none)
  · exact hwith

theorem refreshHold_apartFrom (station : Nat) (s : State) (card g : Nat) : s.ApartFrom station (s.refreshHold station card g) := by
  refine setHolds_apartFrom station s ?_ ?_ ?_
  · rfl
  · intro other hne
    have hsame : ∀ h : Hold, (if h.card = card ∧ h.station = station then
        { h with granted := g, remaining := (s.station station).lifetime } else h).station = h.station := fun h => by
      split <;> rfl
    rw [List.filter_map, State.queue]
    simp only [Function.comp_def, hsame]
    refine (List.map_congr_left fun h hm => ?_).trans (List.map_id _)
    have hst : h.station = other := by simpa using (List.mem_filter.1 hm).2
    exact if_neg fun hc => hne (hst.symm.trans hc.2)
  · exact fun _ _ _ _ => rfl

theorem removeHold_apartFrom (station : Nat) (s : State) (card : Nat) : s.ApartFrom station (s.removeHold card station) := by
  refine .trans (setHolds_apartFrom station s ?_ ?_ ?_) (setHoldStation_apartFrom station (s.setHolds _) card none)
  · rfl
  · intro other hne
    rw [State.queue, List.filter_filter]
    refine List.filter_congr fun h _ => ?_
    by_cases ho : h.station = other
    · simp [ho, hne]
    · simp [ho]
  · exact fun _ _ _ _ => rfl

/-- A change of the purse store, with a record of it, of a RUNNING engine. -/
theorem appendRecord_apartFrom (station : Nat) (s : State) {p : PurseStore} (hp : p.classes = s.purses.classes)
    (hr : s.engine.state = .running) (source : Nat) (body : RecordBody) :
    s.ApartFrom station ((s.setPurses p).appendRecord source body) := by
  rw [appendRecord_eq]
  exact ⟨fun _ _ => rfl, fun _ _ _ _ => rfl, fun _ _ _ _ => rfl, ⟨hp, rfl, rfl⟩, rfl, ⟨rfl, rfl, rfl, rfl⟩,
    fun hn => absurd hr hn⟩

/-! ## The owning blocks -/

theorem charge_apartFrom (station : Nat) {s : State} (p : Purse) (gross kept : Nat) (hr : s.engine.state = .running) :
    s.ApartFrom station (s.charge p station gross kept).2.1 := by
  rcases charge_cases s p station gross kept with ⟨st, he⟩ | ⟨-, a, he⟩
  · rw [he]
    exact .refl station s
  · rw [he]
    exact appendRecord_apartFrom station s (p := (((s.modifyPurse p.card
      (fun q => q.charged (s.chargeOf p gross) s.time.day)).addFloat (-((s.chargeOf p gross).net : Int))).addDebitTotals
      (s.chargeOf p gross).net (s.chargeOf p gross).subsidy).purses) rfl hr station ((s.chargeOf p gross).record p)

theorem holdOwner_apartFrom (station : Nat) (s : State) (p : Purse) (asked : Nat) :
    s.ApartFrom station (holdOwner station p asked s).1 := by
  unfold holdOwner
  split
  next =>
    unfold State.newHold
    split
    · exact .refl station s
    split
    · exact .refl station s
    split
    · exact .refl station s
    · exact openHold_apartFrom station s _ _
  next =>
    split
    · unfold State.refresh
      split
      · exact .refl station s
      · exact refreshHold_apartFrom station s _ _
    · exact .refl station s

theorem settleOwner_apartFrom (station : Nat) {s : State} (p : Purse) (gross : Nat) (hr : s.engine.state = .running) :
    s.ApartFrom station (settleOwner station p gross s).1 := by
  have hcharge := charge_apartFrom station p gross 0 hr
  unfold settleOwner
  split
  next =>
    unfold State.settleWithoutHold
    split
    · exact setLastExpired_apartFrom station s none
    · exact .refl station s
  next =>
    split
    next he =>
      rw [he] at hcharge
      exact hcharge
    next he =>
      rw [he] at hcharge
      exact hcharge.trans (removeHold_apartFrom station _ _)

theorem dropOwner_apartFrom (station : Nat) (s : State) (p : Purse) (amount : Nat) :
    s.ApartFrom station (dropOwner station p amount s).1 := by
  unfold dropOwner
  split
  · exact .refl station s
  · exact removeHold_apartFrom station s _

theorem cashOwner_apartFrom (station : Nat) {s : State} (p : Purse) (amount : Nat) (hr : s.engine.state = .running) :
    s.ApartFrom station (cashOwner station p amount s).1 := by
  unfold cashOwner
  split_ifs
  · exact .refl station s
  · exact .refl station s
  · exact .refl station s
  · exact .refl station s
  · exact appendRecord_apartFrom station s (p := (((s.modifyPurse p.card
      (fun q => { q with balance := q.balance + amount })).addFloat amount).addCreditTotal amount).purses) rfl hr station _

/-- Step 7 of every kind of request; those that move money are served while RUNNING alone (R89). -/
theorem owner_apartFrom {k : RequestKind} {station amount : Nat} {p : Purse} {s : State} (h : k.Checked station p amount s) :
    s.ApartFrom station (k.owner station p amount s).1 := by
  have hrun : k ≠ .bal → k ≠ .drop → s.engine.state = .running := fun hb hd => running_of_served hb hd h.served
  cases k with
  | bal => exact .refl station s
  | hold => exact holdOwner_apartFrom station s p amount
  | settle => exact settleOwner_apartFrom station p amount (hrun (by decide) (by decide))
  | sale => exact charge_apartFrom station p amount _ (hrun (by decide) (by decide))
  | drop => exact dropOwner_apartFrom station s p amount
  | cash => exact cashOwner_apartFrom station p amount (hrun (by decide) (by decide))

/-! ## Taking a request -/

theorem matchWatch_apartFrom (station : Nat) (s : State) (card : Nat) (k : RequestKind) :
    s.ApartFrom station (s.matchWatch station card k) := by
  unfold State.matchWatch
  split
  · exact apartFrom_writes station rfl ⟨rfl, rfl⟩ rfl rfl rfl ⟨rfl, rfl, rfl, rfl⟩
  · exact .refl station s

theorem commonChecks_apartFrom {k : RequestKind} {station : Nat} (s : State) (body : List Byte) :
    s.ApartFrom station (s.commonChecks k station body (k.owner station)).1 := by
  unfold State.commonChecks
  split
  next => exact .refl station s
  next card amount hr =>
    obtain ⟨hc, hg⟩ := read_some hr
    have hw := matchWatch_apartFrom station s card k
    dsimp only
    split
    next => exact hw
    next hk =>
      split
      next => exact hw
      next he =>
        split
        next => exact hw
        next p hp =>
          split
          next => exact hw.trans (apartFrom_writes station rfl ⟨rfl, rfl⟩ rfl rfl rfl ⟨rfl, rfl, rfl, rfl⟩)
          next ha =>
            have hact : p.state = .active := by cases hst : p.state <;> simp_all
            exact hw.trans (owner_apartFrom ⟨(purse?_card hp).symm ▸ hp, hact, hg, by simpa using hk, he⟩)

theorem takeRequest_apartFrom {station : Nat} {serve : State → State × Option LaneReply} (s : State) (kind : Byte)
    (body : List Byte) (h : s.ApartFrom station (serve s).1) : s.ApartFrom station (s.takeRequest station kind body serve) := by
  unfold State.takeRequest
  split
  · dsimp only
    have hserve : s.ApartFrom station (if (s.station station).kind = .none then (s, none) else serve s).1 := by
      split
      · exact .refl station s
      · exact h
    exact hserve.trans (apartFrom_writes station rfl ⟨rfl, rfl⟩ rfl rfl rfl ⟨rfl, rfl, rfl, rfl⟩)
  · exact .refl station s

theorem takeChecked_apartFrom (k : RequestKind) (station : Nat) (s : State) (body : List Byte) :
    s.ApartFrom station (s.takeChecked k station body (k.owner station)) :=
  takeRequest_apartFrom s k.code body ((commonChecks_apartFrom s body).trans (setLastReply_apartFrom station _ _))

theorem exec_laneForm_apartFrom {c : Instr} {station : Nat} {kind : Byte} {body : List Byte}
    (h : laneForm c = some (station, kind, body)) (s : State) : ∃ t, exec c s = .next t ∧ s.ApartFrom station t := by
  cases c with
  | bal => cases h; exact ⟨_, rfl, takeChecked_apartFrom .bal station s body⟩
  | hold => cases h; exact ⟨_, rfl, takeChecked_apartFrom .hold station s body⟩
  | settle => cases h; exact ⟨_, rfl, takeChecked_apartFrom .settle station s body⟩
  | sale => cases h; exact ⟨_, rfl, takeChecked_apartFrom .sale station s body⟩
  | drop => cases h; exact ⟨_, rfl, takeChecked_apartFrom .drop station s body⟩
  | cash => cases h; exact ⟨_, rfl, takeChecked_apartFrom .cash station s body⟩
  | repeatReply => cases h; exact ⟨_, rfl, takeRequest_apartFrom s _ body (.refl station s)⟩
  | unknownRequestKind =>
    obtain ⟨hk, he⟩ := Option.ite_none_right_eq_some.1 h
    cases he
    exact ⟨_, congrArg Host.Outcome.next (if_neg (by omega)), takeRequest_apartFrom s kind body (setLastReply_apartFrom station s _)⟩
  | _ => cases h

/-- Settles O59 (R64, R66, R87, R89, R95). -/
theorem laneRequestIsolation : Obligations.LaneRequestIsolation := by
  intro s c station kind body h
  obtain ⟨t, ht, ha⟩ := exec_laneForm_apartFrom h s
  obtain ⟨hclasses, htime, hstations⟩ := ha.tables
  obtain ⟨hcredit, hoffice, hsupply, hticks⟩ := ha.blocks
  exact ⟨t, ht, fun other h1 h14 hne => ⟨ha.queues other hne, ha.expired other h1 h14 hne, ha.replies other h1 h14 hne⟩,
    hclasses, htime, hstations, hcredit, hoffice, ha.engine, hsupply, hticks, ha.money⟩

end Sys2Proof.Machine
end

/-! # The output lines: LBUS, LBDIR and OTX (O60) -/

section
namespace Sys2Proof.Machine

theorem flagByte_three (a b c : Bool) : ([flagByte a b c false false false false false] : List Byte) =
    leBytes 1 ((if a then 1 else 0) + (if b then 2 else 0) + (if c then 4 else 0)) := by
  rw [flagByte_eight]
  simp

theorem laneStatus_code (st : LaneStatus) : ([st.code] : List Byte) = leBytes 1
    (([.ok, .shortOk, .badRequest, .wrongStation, .notReady, .frozen, .unknownCard, .blocked, .inUse, .queueFull, .poolFull,
      .noHold, .holdExpired, .insufficient, .dayLimit, .purseFull, .journalFull, .overdueRefused, .noReply] :
      List LaneStatus).idxOf st) := by
  cases st <;> rfl

theorem officeStatus_code (st : OfficeStatus) : ([st.code] : List Byte) = leBytes 1
    (([.ok, .badRequest, .range, .unknownCard, .cardExists, .tableFull, .hasHold, .purseFull, .noRoom, .wrongState, .badTable,
      .batchState, .countExceeded, .mismatch, .notRead, .empty, .atEnd] : List OfficeStatus).idxOf st) := by
  cases st <;> rfl

/-- The characters of a lane reply, field by field (R162). -/
theorem laneFrame_fields (r : LaneReply) : r.frame = withCheck (leBytes 1 (128 + r.station)
    ++ leBytes 1 (([.ok, .shortOk, .badRequest, .wrongStation, .notReady, .frozen, .unknownCard, .blocked, .inUse, .queueFull,
      .poolFull, .noHold, .holdExpired, .insufficient, .dayLimit, .purseFull, .journalFull, .overdueRefused, .noReply] :
      List LaneStatus).idxOf r.status)
    ++ leBytes 1 ((if r.overdue then 1 else 0) + (if r.short then 2 else 0) + (if r.repeated then 4 else 0))
    ++ leBytes 1 r.body.length ++ r.body) := by
  rw [← laneStatus_code, ← flagByte_three]
  rfl

/-- The characters of an office reply, field by field (R173). -/
theorem officeFrame_fields (r : OfficeReply) : r.frame = withCheck (
    leBytes 1 (([.ok, .badRequest, .range, .unknownCard, .cardExists, .tableFull, .hasHold, .purseFull, .noRoom, .wrongState,
      .badTable, .batchState, .countExceeded, .mismatch, .notRead, .empty, .atEnd] : List OfficeStatus).idxOf r.status)
    ++ leBytes 1 ((if r.flags.badRate then 1 else 0) + (if r.flags.timeout then 2 else 0) + (if r.flags.badCheck then 4 else 0)
      + (if r.flags.handshake then 8 else 0))
    ++ leBytes 1 r.body.length ++ r.body) := by
  rw [← officeStatus_code, ← flagByte_four]
  rfl

/-- The exclusive or of bits is 1 when an odd number of them is. -/
theorem foldr_xor_eq (l : List Bool) : l.foldr Bool.xor false = decide (l.count true % 2 = 1) := by
  induction l with
  | nil => rfl
  | cons b l ih =>
    rw [List.foldr_cons, ih, List.count_cons, Bool.eq_iff_iff]
    cases b with
    | false => simp
    | true =>
      simp only [Bool.true_xor, Bool.not_eq_true', decide_eq_false_iff_not, decide_eq_true_eq, beq_self_eq_true, if_true]
      omega

theorem parityBit_eq (c : Byte) : parityBit c = decide ((dataBits c).count true % 2 = 1) := by
  rw [← foldr_xor_eq]
  simp [parityBit, dataBits, List.range, List.range.loop]

theorem laneCharacter_eq : laneCharacter = fun c =>
    [false] ++ dataBits c ++ [decide ((dataBits c).count true % 2 = 1), true, true] := by
  funext c
  rw [laneCharacter, parityBit_eq]

/-- What the lines show while the blocks are not supplied (R142). -/
theorem lines_unsupplied {s : State} (hs : ¬ s.supplied = true) : s.lbusBits = [] ∧ s.otxBits = [] ∧ s.otxStartBreak = false :=
  ⟨if_neg hs, if_neg hs, Bool.and_eq_false_iff.2 (.inl (eq_false_of_ne_true hs))⟩

theorem lbusBits_supplied {s : State} (hs : s.supplied = true) : s.lbusBits =
    match s.port.receiver with
    | .mark => List.replicate 24 false
    | .replying r => r.frame.flatMap laneCharacter
    | .broken refusal => if refusal then refusalSignal else []
    | .idle => []
    | .receiving => []
    | .turnaround _ => [] := if_pos hs

theorem otx_supplied {s : State} (hs : s.supplied = true) :
    (s.otxBits = match s.office.transmit with
      | .reply r => r.frame.flatMap officeCharacter
      | .answeringBreak => List.replicate 2 true ++ List.replicate 10 false
      | .idle => []
      | .startBreak _ => []) ∧
    s.otxStartBreak = match s.office.transmit with
      | .startBreak _ => true
      | .idle => false
      | .reply _ => false
      | .answeringBreak => false :=
  ⟨if_pos hs, by rw [State.otxStartBreak, hs]; exact Bool.true_and _⟩

/-- Settles O60 (R142, R153, R155, R159, R162, R165, R169, R170, R173). -/
theorem linesCarryRepliesAndSignals : Obligations.LinesCarryRepliesAndSignals := by
  intro s
  refine ⟨rfl, fun hp => ?_, fun hp => lines_unsupplied (mt (supplied_iff s).1 hp)⟩
  have hlbus := lbusBits_supplied ((supplied_iff s).2 hp)
  obtain ⟨hotx, hbreak⟩ := otx_supplied ((supplied_iff s).2 hp)
  refine ⟨fun r hr => ?_, fun hr => ?_, fun refusal hr => ?_, fun hr => ?_, fun h hr => ?_, fun r ht => ?_, fun ht => ?_,
    fun answer ht => ?_, fun ht => ?_⟩
  · rw [hlbus, hr, laneCharacter_eq]
    dsimp only
    rw [laneFrame_fields]
    exact ⟨_, withCheck_sum _, rfl⟩
  · rw [hlbus, hr]
  · rw [hlbus, hr]
    rfl
  · rw [hlbus]
    rcases hr with hr | hr <;> rw [hr]
  · rw [hlbus, hr]
  · rw [hotx, hbreak, ht]
    dsimp only
    rw [officeFrame_fields]
    exact ⟨rfl, _, withCheck_sum _, rfl⟩
  · rw [hotx, hbreak, ht]
    exact ⟨rfl, rfl⟩
  · rw [hotx, hbreak, ht]
    exact ⟨rfl, rfl⟩
  · rw [hotx, hbreak, ht]
    exact ⟨rfl, rfl⟩

end Sys2Proof.Machine
end
